-- ==== Sys2Proof/Word.lean ====
section
/-!
DEFINITION. Bytes and the plainest arithmetic on them: little-endian values (spec/00_scope.md R432), bit fields of a
number, and the zero-filled byte run. Nothing here knows the engine.
-/

namespace Sys2Proof

/-- A byte, the unit the code, the fabric and the dictionary work on (02 R63, 03 R80). -/
abbrev Byte := BitVec 8

/-- Bits [hi:lo] of a number, inclusive, as the field tables write them (00, "Conventions"). -/
def bits (x hi lo : Nat) : Nat := x / 2 ^ lo % 2 ^ (hi + 1 - lo)

/-- Bit `i` of a number. -/
def bit (x i : Nat) : Bool := x / 2 ^ i % 2 == 1

/-- A field's contribution to a record: value `v` of width `w` placed at bit `lo`. -/
def put (v w lo : Nat) : Nat := v % 2 ^ w * 2 ^ lo

/-- A flag as a bit. -/
def b2n (b : Bool) : Nat := if b then 1 else 0

/-- The little-endian value of a byte run (00 R432, 02 R63). -/
def leNat : List Byte → Nat
  | [] => 0
  | b :: bs => b.toNat + 256 * leNat bs

/-- `n` little-endian bytes of a value. -/
def leBytes (v : Nat) : Nat → List Byte
  | 0 => []
  | n + 1 => BitVec.ofNat 8 v :: leBytes (v / 256) n

/-- `n` zero bytes. -/
def zeros (n : Nat) : List Byte := List.replicate n 0

/-- Bytes `i` to `i + n - 1` of a run, zero-filled past its end. -/
def slice (bs : List Byte) (i n : Nat) : List Byte :=
  let t := (bs.drop i).take n
  t ++ zeros (n - t.length)

/-- The little-endian number of `n` bytes at offset `i`. -/
def leAt (bs : List Byte) (i n : Nat) : Nat := leNat (slice bs i n)

/-- A two's-complement number of width `w`. -/
def signed (x w : Nat) : Int := if x % 2 ^ w < 2 ^ (w - 1) then (x % 2 ^ w : Nat) else (x % 2 ^ w : Nat) - 2 ^ w

/-- `a / b` rounded up. -/
def ceilDiv (a b : Nat) : Nat := (a + b - 1) / b

/-- Bytewise XOR of two runs, the shorter one padded with zeros. -/
def xorBytes : List Byte → List Byte → List Byte
  | [], bs => bs
  | as, [] => as
  | a :: as, b :: bs => (a ^^^ b) :: xorBytes as bs

/-- An association list: the first entry with the key counts. -/
abbrev AList (α β : Type) := List (α × β)

/-- The value at a key. -/
def AList.get? {α β : Type} [DecidableEq α] (l : AList α β) (k : α) : Option β :=
  (l.find? (fun p => p.1 == k)).map (·.2)

/-- The value at a key, or a default. -/
def AList.getD {α β : Type} [DecidableEq α] (l : AList α β) (k : α) (d : β) : β := (AList.get? l k).getD d

/-- Everything but a key. -/
def AList.erase {α β : Type} [DecidableEq α] (l : AList α β) (k : α) : AList α β := l.filter (fun p => !(p.1 == k))

/-- Store a value at a key, replacing what it held. -/
def AList.set {α β : Type} [DecidableEq α] (l : AList α β) (k : α) (v : β) : AList α β :=
  (k, v) :: AList.erase l k

end Sys2Proof
end

