-- ==== Sys2Proof/Syntax.lean ====
section
/-!
DEFINITION. The commands of the block: one constructor of `Instr` per row of spec/opcode_table.json, with the row's
operands as the boundary presents them (01, 12, 13), and the records those operands are made of.
-/

namespace Sys2Proof

/-- An engine position of the group, 0 to 11 (00 R1). -/
abbrev EngineId := Fin 12

/-- An engine instruction without its OPCODE: word 0's other fields and words 1 to 3 (12 R333). -/
structure EngineInstr where
  tag         : BitVec 24
  target      : BitVec 4
  cntMode     : BitVec 2
  counter     : BitVec 10
  rsvd        : BitVec 3
  nonExact    : Bool
  priority    : BitVec 2
  chunkSignal : Bool
  fenceAfter  : Bool
  fenceBefore : Bool
  relocatable : Bool
  stream      : BitVec 6
  w1          : BitVec 64
  w2          : BitVec 64
  w3          : BitVec 64
deriving DecidableEq, Repr

/-- A whole 256-bit engine instruction: the opcode and the rest (12 R333). -/
structure RawInstr where
  opcode : BitVec 8
  body   : EngineInstr
deriving DecidableEq, Repr

/-- A fabric chunk: the header of 01 R27 and the payload. `place` is header bits [104:61], `ext` bits [28:0]. -/
structure Chunk where
  crc       : BitVec 32
  jobId     : BitVec 16
  mapGen    : BitVec 16
  dstChip   : BitVec 13
  dstEngine : BitVec 4
  srcChip   : BitVec 13
  srcEngine : BitVec 4
  vc        : BitVec 2
  kind      : BitVec 6
  status    : BitVec 8
  seq       : BitVec 16
  tag       : BitVec 12
  length    : BitVec 9
  place     : BitVec 44
  step      : BitVec 32
  ext       : BitVec 29
  payload   : List Byte
deriving DecidableEq, Repr

/-- A dictionary transaction (01 R43). LENGTH is kept apart from DATA: a read carries no data. -/
structure Txn where
  op        : BitVec 2
  engineSel : BitVec 4
  index     : BitVec 16
  sub       : BitVec 8
  segment   : BitVec 16
  length    : BitVec 9
  data      : List Byte
deriving DecidableEq, Repr

/-- The four levels of a reset (15 R400). -/
inductive ResetLevel where
  | facet | engine | group | chip
deriving DecidableEq, Repr

/-- An island with a scan chain (01 R53): a facet's, the engine's own, the group's. -/
inductive Island where
  | facet (f : Fin 8) | engine | group
deriving DecidableEq, Repr

/-- The test instruments of 01 R53 and what an access names: of a scan chain the island and a register of it. -/
inductive Instrument where
  | sramSelfTest (struct macroNo : Nat)
  | knownAnswer (facet : Nat)
  | scan (island : Island) (cell : Nat)
  | trace
  | fuseReader
  | sramFlipMask (struct word offset : Nat) (mask : BitVec 64)
deriving DecidableEq, Repr

/-- The answer to a test read of bring-up stage 2 that is not clean or does not return what was written: pass, granule, the 64 bytes
returned, STATUS, none where the port does not answer within 1 ms (01 R18, R20, 15 R410). -/
structure TestRead where
  pass    : Nat
  granule : Nat
  data    : List Byte
  status  : Option Nat
deriving DecidableEq, Repr

/-- The controller's answer to a repair request: its count of spare rows remaining, none where it has none left for the row; and the
answers to the second test of the row that are not as they should be (01 R20, 15 R410). -/
structure RowRepair where
  spares : Option Nat
  retest : List TestRead
deriving DecidableEq, Repr

/-- The inputs of the risk estimator the chip's health layer writes (14 R386). -/
inductive HealthInput where
  | linkRetries | thermalMargin
deriving DecidableEq, Repr

/-- What bring-up stage 3 loads for one engine: scalar and table elements (key, value) and BLOBs (14 R371). -/
structure DictImage where
  format : Nat
  words  : AList (Nat × Nat × Nat) Nat
  blobs  : AList (Nat × Nat) (List Byte)
  job    : Option (List Byte)
  armed  : Bool
deriving DecidableEq, Repr

/-- The commands, one per row of spec/opcode_table.json, in the table's order. -/
inductive Instr where
  | nop (i : EngineInstr)
  | fill (i : EngineInstr)
  | fenceStream (i : EngineInstr)
  | fenceEngine (i : EngineInstr)
  | copyLocal (i : EngineInstr)
  | copyMirror (i : EngineInstr)
  | copyAddf32 (i : EngineInstr)
  | prism (i : EngineInstr)
  | encode (i : EngineInstr)
  | delta (i : EngineInstr)
  | decode (i : EngineInstr)
  | rebuild (i : EngineInstr)
  | rebuildDrill (i : EngineInstr)
  | verifyCheck (i : EngineInstr)
  | verifyReencode (i : EngineInstr)
  | accopen (i : EngineInstr)
  | accum (i : EngineInstr)
  | accclose (i : EngineInstr)
  | acccloseDiscard (i : EngineInstr)
  | seal (i : EngineInstr)
  | normPublish (i : EngineInstr)
  | normDecide (i : EngineInstr)
  | sweep (i : EngineInstr)
  | commit (i : EngineInstr)
  | commitAbort (i : EngineInstr)
  | commitQuiesce (i : EngineInstr)
  | steprec (i : EngineInstr)
  | migrate (i : EngineInstr)
  | prefetch (i : EngineInstr)
  | applypend (i : EngineInstr)
  | digestPanes (i : EngineInstr)
  | digestTree (i : EngineInstr)
  | digestTapclose (i : EngineInstr)
  | compare (i : EngineInstr)
  | aperture (i : EngineInstr)
  | silverRun (i : EngineInstr)
  | silverAbandon (i : EngineInstr)
  | restorePrepare (i : EngineInstr)
  | restoreLoad (i : EngineInstr)
  | restoreFinish (i : EngineInstr)
  | instructionArrival (w0 w1 w2 w3 : BitVec 64)
  | stepCounterValid (value : BitVec 32)
  | paneRowRetire (e : EngineId) (facet : Fin 8)
  | lanePaneComplete (e : EngineId) (facet : Fin 8)
  | operationComplete (e : EngineId) (op : Nat)
  | memResponse (e : EngineId) (tag : BitVec 12) (status : BitVec 2) (poisoned writeAck : Bool)
  | presenceLookup (e : EngineId) (pane : BitVec 24)
  | codedWrite (e : EngineId) (granule : BitVec 30) (byteEn : List (BitVec 64)) (data : List Byte)
  | privateEntryAccess (e : EngineId) (granule : BitVec 30) (write : Bool)
  | tapWrite (e : EngineId) (granule : BitVec 30) (byteEn : BitVec 64) (data : List Byte)
  | tierCompletion (request : Nat) (error : Bool)
  | tierLateTimeout (request : Nat)
  | deltaReceive (e : EngineId) (c : Chunk)
  | foldPane (e : EngineId)
  | deltaAckReceive (e : EngineId) (c : Chunk)
  | accumWriteReceive (e : EngineId) (c : Chunk)
  | gparityReceive (e : EngineId) (c : Chunk)
  | gparityAckReceive (e : EngineId) (c : Chunk)
  | coldParityReceive (e : EngineId) (c : Chunk)
  | dreadReqChain (e : EngineId) (c : Chunk)
  | dreadReqGather (e : EngineId) (c : Chunk)
  | dreadReqRelease (e : EngineId) (c : Chunk)
  | dreadRespReceive (e : EngineId) (c : Chunk)
  | rebuildSumReceive (e : EngineId) (c : Chunk)
  | rebuildSumHandoff (e : EngineId) (c : Chunk)
  | rebuildSumRepair (e : EngineId) (c : Chunk)
  | rebuildAckReceive (e : EngineId) (c : Chunk)
  | mirrorReqSegment (e : EngineId) (c : Chunk)
  | mirrorReqDigest (e : EngineId) (c : Chunk)
  | mirrorReqNode (e : EngineId) (c : Chunk)
  | mirrorReqArbitrate (e : EngineId) (c : Chunk)
  | mirrorReqFromMirror (e : EngineId) (c : Chunk)
  | mirrorRespReceive (e : EngineId) (c : Chunk)
  | restoreXferReceive (e : EngineId) (c : Chunk)
  | sAckReceive (e : EngineId) (c : Chunk)
  | nakReceive (e : EngineId) (c : Chunk)
  | nakStaleGen (e : EngineId) (c : Chunk)
  | nakAbsent (e : EngineId) (c : Chunk)
  | nakRefused (e : EngineId) (c : Chunk)
  | resendReceive (e : EngineId) (c : Chunk)
  | stubFabricRequest (e : EngineId) (c : Chunk)
  | creditGrant (e : EngineId) (vc : BitVec 2)
  | fabricResendTimeout (e : EngineId) (chip : BitVec 13) (dst : BitVec 4) (vc : BitVec 2)
  | genHoldTimeout (e : EngineId) (vc : BitVec 2) (own : Bool)
  | genRetryInterval (e : EngineId) (tag : BitVec 12)
  | accOpenWaitTimeout (e : EngineId) (srcChip : BitVec 13) (srcEngine : BitVec 4)
  | accCloseTimeout (e : EngineId) (group : BitVec 6)
  | stageWaitTimeout (e : EngineId) (facet : Fin 8)
  | mirrorWaitTimeout (e : EngineId) (srcChip : BitVec 13) (tag : BitVec 12)
  | commitTimeout (e : EngineId)
  | apertureTimeout (e : EngineId)
  | chainTimeout (e : EngineId) (install : Nat)
  | drainTimeout (e : EngineId)
  | autofillGapEnd (e : EngineId) (facet : Fin 8)
  | activityWindow (e : EngineId) (facet : Fin 8)
  | crossbarWindow
  | powerEstimate
  | ceLeakInterval (e : EngineId)
  | riskPeriod
  | inputStale (input : HealthInput)
  | leaseExpiry
  | lockoutExpiry
  | drillPeriod (e : EngineId)
  | scrubRow (e : EngineId)
  | backgroundInstall (e : EngineId)
  | coldRepair (e : EngineId)
  | latchFireAtTime
  | peerRetry (e : EngineId) (chip : BitVec 13) (expired : Bool)
  | facetPowerStagger
  | commitReady (e : EngineId)
  | commitRelease (step : BitVec 32) (mode : BitVec 2)
  | apertureReady (e : EngineId)
  | apertureRelease (fail : Bool)
  | apertureCopyEnd (e : EngineId)
  | mapSafePoint (e : EngineId)
  | vcArbitrationRound (e : EngineId)
  | registerWrite (t : Txn)
  | blobSegmentWrite (t : Txn)
  | groupCommit (sel : BitVec 4) (index : BitVec 16) (sub : BitVec 8)
  | groupDiscard (sel : BitVec 4) (index : BitVec 16) (sub : BitVec 8)
  | mapStage (sel : BitVec 4) (segment : BitVec 16) (data : List Byte)
  | ringImport (sel : BitVec 4) (segment : BitVec 16) (data : List Byte)
  | jobBlob (sel : BitVec 4) (segment : BitVec 16) (data : List Byte)
  | jobArm (sel : BitVec 4) (segment : BitVec 16) (data : List Byte)
  | jobEnd (sel : BitVec 4) (value : Byte)
  | latchCancel
  | latchAtTime
  | latchAtStep
  | resetRequestFacet (sel : BitVec 4) (absorb : Bool) (facet : BitVec 3)
  | resetRequestEngine (sel : BitVec 4) (absorb : Bool)
  | resetRequestGroup (sel : BitVec 4) (absorb : Bool)
  | flipmaskArm (sel : BitVec 4) (value : Byte)
  | ledgerPeekWrite (sel : BitVec 4) (data : List Byte)
  | authServiceUnlock (segment : BitVec 16) (data : List Byte)
  | authReturn (segment : BitVec 16) (data : List Byte)
  | lcRelock (value : Byte)
  | lcAdvanceProvisioned
  | lcAdvanceField
  | lcAdvanceReturn
  | fuseReadback (blown : Bool)
  | eventDeliver
  | timeBackward (time : BitVec 64)
  | powerOn
  | rstReq (level : ResetLevel) (e : EngineId) (facet : Fin 8) (absorb : Bool)
  | rstDone (level : ResetLevel) (e : EngineId) (facet : Fin 8)
  | rstReqRelease (level : ResetLevel) (e : EngineId) (facet : Fin 8)
  | clockLost (domain : Fin 40)
  | powerLost (e : EngineId)
  | stagePowerAndClocks (e : EngineId)
  | stageFusesAndSram (e : EngineId) (fuses lcFuses : BitVec 64) (failedMacros : List (Nat × Nat))
  | stageMemoryPath (e : EngineId) (reads : List TestRead) (repairs : List RowRepair)
  | stageDictionaryImage (e : EngineId) (image : DictImage)
  | stageStripeMapAndPeers (e : EngineId)
  | stageKnownAnswerTest (e : EngineId) (failedFacets : BitVec 8) (portOk : Bool)
  | stageRearm (e : EngineId)
  | ieee1687Access (e : EngineId) (instrument : Instrument)
  | pwrGood (e : EngineId) (facet : Option (Fin 8))
  | pwrGoodLate (e : EngineId) (facet : Option (Fin 8))
  | coldRepairWaitTimeout (e : EngineId) (op : Nat)
  | arbitrationDigestTimeout (e : EngineId) (arbitration : Nat)
  | drillRow (e : EngineId)
deriving DecidableEq, Repr

end Sys2Proof
end

