-- ==== Sys2Proof/WellFormed.lean ====
section
/-!
DEFINITION. What a command of the boundary can look like: field values a bit width does not already bound. Every
meaning is total and answers ill-formed commands too; `Instr.wf` says which commands the boundary presents.
-/

namespace Sys2Proof

/-- The chunk kinds of 01 R27. -/
def kindDelta : Nat := 0x01
def kindDeltaAck : Nat := 0x02
def kindAccum : Nat := 0x08
def kindGparity : Nat := 0x09
def kindGparityAck : Nat := 0x0a
def kindSum : Nat := 0x10
def kindDreadReq : Nat := 0x11
def kindDreadResp : Nat := 0x12
def kindRebuildAck : Nat := 0x13
def kindMirrorReq : Nat := 0x18
def kindMirrorResp : Nat := 0x19
def kindRestore : Nat := 0x1a
def kindCold : Nat := 0x1b
def kindSAck : Nat := 0x1c
def kindNak : Nat := 0x20
def kindResend : Nat := 0x21

/-- A chunk of the kind that the receiving row names, its LENGTH equal to the bytes it carries. -/
def Chunk.wf (c : Chunk) (kind : Nat) : Bool :=
  c.kind.toNat == kind && c.payload.length == c.length.toNat && c.length.toNat ≤ 256

/-- A transaction whose LENGTH is in range; a write carries that many bytes, a read none (01 R43). -/
def Txn.wf (t : Txn) : Bool :=
  t.length.toNat ≤ 256 &&
  (if t.op.toNat == 1 || t.op.toNat == 2 then t.data.length == t.length.toNat else t.data.isEmpty)

/-- The 64 bytes of a granule. -/
def granuleWf (data : List Byte) : Bool := data.length == 64

/-- One or more granules of one pane, each with its BYTE_EN and 64 bytes (01 R22). -/
def runWf (granule : BitVec 30) (byteEn : List (BitVec 64)) (data : List Byte) : Bool :=
  !byteEn.isEmpty && data.length == 64 * byteEn.length && granule.toNat % 64 + byteEn.length ≤ 64

/-- The command is one the boundary can present. -/
def Instr.wf : Instr → Bool
  | .deltaReceive _ c => c.wf kindDelta
  | .deltaAckReceive _ c => c.wf kindDeltaAck
  | .accumWriteReceive _ c => c.wf kindAccum
  | .gparityReceive _ c => c.wf kindGparity
  | .gparityAckReceive _ c => c.wf kindGparityAck
  | .coldParityReceive _ c => c.wf kindCold
  | .dreadReqChain _ c | .dreadReqGather _ c | .dreadReqRelease _ c => c.wf kindDreadReq
  | .dreadRespReceive _ c => c.wf kindDreadResp
  | .rebuildSumReceive _ c | .rebuildSumHandoff _ c | .rebuildSumRepair _ c => c.wf kindSum
  | .rebuildAckReceive _ c => c.wf kindRebuildAck
  | .mirrorReqSegment _ c | .mirrorReqDigest _ c | .mirrorReqNode _ c | .mirrorReqArbitrate _ c
  | .mirrorReqFromMirror _ c => c.wf kindMirrorReq
  | .mirrorRespReceive _ c => c.wf kindMirrorResp
  | .restoreXferReceive _ c => c.wf kindRestore
  | .sAckReceive _ c => c.wf kindSAck
  | .nakReceive _ c | .nakStaleGen _ c | .nakAbsent _ c | .nakRefused _ c => c.wf kindNak
  | .resendReceive _ c => c.wf kindResend
  | .stubFabricRequest _ c => c.payload.length == c.length.toNat
  | .codedWrite _ g byteEn data => runWf g byteEn data
  | .tapWrite _ _ _ data => granuleWf data
  | .registerWrite t | .blobSegmentWrite t => t.wf
  | .mapStage _ _ data | .ringImport _ _ data | .jobBlob _ _ data | .jobArm _ _ data => data.length ≤ 256
  | .ledgerPeekWrite _ data => data.length ≤ 256
  | .authServiceUnlock _ data | .authReturn _ data => data.length ≤ 256
  | .latchCancel | .latchAtTime | .latchAtStep | .lcAdvanceProvisioned | .lcAdvanceField | .lcAdvanceReturn => true
  | .nop _ | .fill _ | .fenceStream _ | .fenceEngine _ | .copyLocal _ | .copyMirror _ | .copyAddf32 _ | .prism _
  | .encode _ | .delta _ | .decode _ | .rebuild _ | .rebuildDrill _ | .verifyCheck _ | .verifyReencode _ | .accopen _
  | .accum _ | .accclose _ | .acccloseDiscard _ | .seal _ | .normPublish _ | .normDecide _ | .sweep _ | .commit _
  | .commitAbort _ | .commitQuiesce _ | .steprec _ | .migrate _ | .prefetch _ | .applypend _ | .digestPanes _
  | .digestTree _ | .digestTapclose _ | .compare _ | .aperture _ | .silverRun _ | .silverAbandon _
  | .restorePrepare _ | .restoreLoad _ | .restoreFinish _ | .instructionArrival _ _ _ _ => true
  | .stepCounterValid _ | .paneRowRetire _ _ | .lanePaneComplete _ _ | .operationComplete _ _
  | .memResponse _ _ _ _ _ | .presenceLookup _ _ | .privateEntryAccess _ _ _ | .tierCompletion _ _
  | .tierLateTimeout _ | .foldPane _ | .creditGrant _ _ | .fabricResendTimeout _ _ _ _ | .genHoldTimeout _ _ _
  | .genRetryInterval _ _ | .accOpenWaitTimeout _ _ _ | .accCloseTimeout _ _ | .stageWaitTimeout _ _
  | .mirrorWaitTimeout _ _ _ | .commitTimeout _ | .apertureTimeout _ | .chainTimeout _ _ | .drainTimeout _
  | .autofillGapEnd _ _ | .activityWindow _ _ | .crossbarWindow | .powerEstimate | .ceLeakInterval _ | .riskPeriod
  | .inputStale _ | .leaseExpiry | .lockoutExpiry | .drillPeriod _ | .scrubRow _ | .backgroundInstall _
  | .coldRepair _ | .latchFireAtTime | .peerRetry _ _ _ | .facetPowerStagger | .commitReady _ | .commitRelease _ _
  | .apertureReady _ | .apertureRelease _ | .apertureCopyEnd _ | .mapSafePoint _ | .vcArbitrationRound _ => true
  | .groupCommit _ _ _ | .groupDiscard _ _ _ | .jobEnd _ _ | .resetRequestFacet _ _ _ | .resetRequestEngine _ _
  | .resetRequestGroup _ _ | .flipmaskArm _ _ | .lcRelock _ | .fuseReadback _ | .eventDeliver | .timeBackward _
  | .powerOn | .rstReq _ _ _ _ | .rstDone _ _ _ | .rstReqRelease _ _ _ | .clockLost _ | .powerLost _
  | .stagePowerAndClocks _ | .stageFusesAndSram _ _ _ _ | .stageMemoryPath _ _ _ | .stageDictionaryImage _ _
  | .stageStripeMapAndPeers _ | .stageKnownAnswerTest _ _ _ | .stageRearm _ | .ieee1687Access _ _ | .pwrGood _ _
  | .pwrGoodLate _ _ | .coldRepairWaitTimeout _ _ | .arbitrationDigestTimeout _ _ | .drillRow _ => true

end Sys2Proof
end

