-- ==== Sys2Proof/Decode.lean ====
section
/-!
DEFINITION. The opcode table of this block gives its rows no bits (every row's list of fields is empty), so no word
spells a command.
-/

namespace Sys2Proof

/-- No row of the table has bits: every word is refused. -/
def decodeTableWord (_nbits _w : Nat) : Option Instr := none

end Sys2Proof
end

