-- ==== Sys2Proof/Config.lean ====
section
/-!
DEFINITION. What an implementation fixes and the spec leaves open: free values, each an opaque constant with no body,
so that every statement holds for every value (notes/assumptions/3.md). A fresh value each time is the constant applied
to State's counter of free values.
-/

namespace Sys2Proof.Config

/-- How many cycles a stall or a hold lasted: pressure and cycle counters carry no guarantee (00 R15). -/
opaque stallCycles : Nat → Nat

/-- A word of a flagged accumulation tile, whose main and tail words are unspecified (05 R139). -/
opaque flaggedWord : Nat → BitVec 64

/-- Bytes of a facet-local LFSR under FILL (04 R125), or of a scan chain or trace readout (01 R53). -/
opaque instrumentByte : Nat → BitVec 8

/-- Whether a self-test instrument passes (01 R53, 15 R412). -/
opaque selfTestPasses : Nat → Bool

/-- The group's power estimate in watts for a summary of activity: the per-unit weights are fixed but not given (15 R396). -/
opaque powerEstimate : Nat → BitVec 16

/-- The codeword of an SRAM structure that holds a byte of its content: the mapping is not given (11 R325). -/
opaque sramWord : Nat → Nat → Nat

/-- The memory row that a granule lies in: the stack's mapping is not given (01 R20). -/
opaque memRow : Nat → Nat

/-- The measured rate of a running clock domain in MHz (15 R415). -/
opaque measuredMHz : Nat → BitVec 16

/-- The length in panes of the internal snapshot staging layout for a number of held panes, rows and side bytes (10 R284). -/
opaque stagingPanes : Nat → Nat → Nat → Nat

/-- The capacity in panes of a staging queue: the spec gives none (04 R116). -/
opaque stageCapacity : Nat → Nat

/-- Which record leaves the full record buffer (05 R153). -/
opaque evictedRecord : Nat → Nat

/-- Whether a step was being swept when a map generation that enrols a spare was committed: nothing tells the spare (07 R212). -/
opaque sweptAt : Nat → Bool

/-- The windows and rows that the records of 07 R198 of an engine's holders name with its slot as source, gathered at a map generation
after its reset (09 R254): no chunk of the spec carries them. Engine and map generation. -/
opaque namedRows : Nat → Nat → List (Nat × Nat)

/-- Whether a tier write that ended late or with an error has changed the tier: the spec does not say (01 R48). -/
opaque failedWriteTook : Nat → Bool

/-- How many residue mismatches the lanes meet in a unit of 256 elements (06 R176). -/
opaque residueMismatches : Nat → Nat

end Sys2Proof.Config
end

