-- ==== Sys2Proof/Machine/Catalogue.lean ====
section
/-!
DEFINITION. The catalogue of the object dictionary: each entry's type, right, range, default, staged group and scope, as
the type rows of the chapters give them (13 R356-R375), the counters (14 R378-R379), and the register names.
-/

namespace Sys2Proof.Machine

open Sys2Proof

/-- The types of 13 R358: unsigned of so many bytes, BOOL, ENUM, TABLE of elements of so many bytes, BLOB of a length range. -/
inductive Ty where
  | u (bytes : Nat)
  | bool
  | enum
  | table (count elem : Nat)
  | blob (min max : Nat)
deriving DecidableEq, Repr

/-- The access rights of 13 R361; `svcRo` is SVC, read only. -/
inductive Right where
  | ro | rw | wo | rws | cmt | svc | svcRo
deriving DecidableEq, Repr

/-- An entry or a range of entries with consecutive sub-indices. `group` is its staged group (R363), 16 for none; a
commit entry bears the number of the group it commits. `shared` is group scope (R357). -/
structure Entry where
  index  : Nat
  first  : Nat
  last   : Nat
  ty     : Ty
  right  : Right
  lo     : Nat
  hi     : Nat
  align  : Nat
  dflt   : Nat
  group  : Nat
  shared : Bool
deriving DecidableEq, Repr

def catalogue0 : List Entry :=
  [⟨0x1000, 0x01, 0x01, .u 4, .ro, 0, 0xffffffff, 1, 0x4c57b709, 16, false⟩,
   ⟨0x1000, 0x02, 0x02, .enum, .ro, 0, 0x4, 1, 0x0, 16, false⟩,
   ⟨0x1000, 0x03, 0x03, .u 1, .ro, 0, 0xff, 1, 0x0, 16, false⟩,
   ⟨0x1000, 0x04, 0x04, .u 1, .ro, 0, 0xff, 1, 0x0, 16, false⟩,
   ⟨0x1000, 0x05, 0x05, .u 1, .ro, 0, 0xff, 1, 0x0, 16, false⟩,
   ⟨0x1000, 0x06, 0x06, .enum, .ro, 0, 0x4, 1, 0x0, 16, false⟩,
   ⟨0x1000, 0x07, 0x07, .u 1, .ro, 0, 0xff, 1, 0x0, 16, false⟩,
   ⟨0x1000, 0x08, 0x08, .u 8, .ro, 0, 0xffffffffffffffff, 1, 0x0, 16, false⟩,
   ⟨0x1000, 0x09, 0x09, .u 2, .ro, 0, 0xffff, 1, 0x0, 16, false⟩,
   ⟨0x1000, 0x0a, 0x0a, .u 2, .ro, 0, 0xffff, 1, 0x1, 16, false⟩,
   ⟨0x1000, 0x0b, 0x0b, .u 2, .ro, 0, 0xffff, 1, 0x0, 16, false⟩,
   ⟨0x2000, 0x01, 0x01, .bool, .cmt, 0, 0x1, 1, 0x0, 0, false⟩,
   ⟨0x2000, 0x10, 0x10, .table 16 8, .ro, 0, 0xffffffffffffffff, 1, 0x0, 16, false⟩,
   ⟨0x2010, 0x01, 0x40, .u 1, .rws, 0, 0x7, 1, 0x0, 0, false⟩,
   ⟨0x2030, 0x01, 0x01, .u 1, .rws, 0, 0xff, 1, 0xc0, 0, false⟩,
   ⟨0x2040, 0x01, 0x01, .u 1, .rws, 1, 0xf, 1, 0x8, 1, false⟩,
   ⟨0x2040, 0x02, 0x02, .u 1, .rws, 1, 0xf, 1, 0x4, 1, false⟩,
   ⟨0x2040, 0x03, 0x03, .u 1, .rws, 0, 0xf, 1, 0x2, 1, false⟩,
   ⟨0x2040, 0x04, 0x04, .u 1, .rws, 0, 0xf, 1, 0x2, 1, false⟩,
   ⟨0x2040, 0x05, 0x05, .u 4, .rw, 2, 0x2710, 1, 0x14, 16, false⟩,
   ⟨0x2040, 0x08, 0x08, .bool, .cmt, 0, 0x1, 1, 0x0, 1, false⟩,
   ⟨0x2060, 0x01, 0x01, .bool, .rw, 0, 0x1, 1, 0x1, 16, false⟩,
   ⟨0x2060, 0x02, 0x02, .bool, .rw, 0, 0x1, 1, 0x1, 16, false⟩,
   ⟨0x2060, 0x03, 0x03, .u 1, .rw, 1, 0x8, 1, 0x6, 16, false⟩,
   ⟨0x2060, 0x04, 0x04, .u 1, .rw, 0, 0x32, 1, 0x19, 16, false⟩,
   ⟨0x2070, 0x01, 0x01, .u 4, .rws, 0, 0xffffffff, 1, 0x0, 0, false⟩,
   ⟨0x2070, 0x02, 0x02, .u 4, .rws, 0, 0x10000, 1, 0x0, 0, false⟩,
   ⟨0x2070, 0x03, 0x03, .u 4, .rw, 0, 0xffffffff, 1, 0x3e8, 16, false⟩,
   ⟨0x2080, 0x01, 0x01, .u 1, .rws, 16, 0x70, 1, 0x68, 0, false⟩,
   ⟨0x2080, 0x02, 0x02, .u 4, .rw, 0, 0xffffffff, 1, 0x64, 16, false⟩,
   ⟨0x2090, 0x01, 0x01, .u 4, .rws, 0, 0xffffffff, 1, 0x0, 0, false⟩,
   ⟨0x2090, 0x02, 0x02, .u 4, .rw, 100, 0xf4240, 1, 0x1388, 16, false⟩,
   ⟨0x3000, 0x01, 0x01, .blob 1 8388608, .ro, 0, 0x0, 1, 0x0, 16, false⟩,
   ⟨0x3000, 0x02, 0x02, .u 2, .ro, 0, 0xffff, 1, 0x0, 16, false⟩,
   ⟨0x3000, 0x03, 0x03, .u 1, .ro, 0, 0xff, 1, 0xff, 16, false⟩,
   ⟨0x3010, 0x01, 0x01, .blob 1 8388608, .rws, 0, 0x0, 1, 0x0, 2, false⟩]

def catalogue1 : List Entry :=
  [⟨0x3010, 0x02, 0x02, .bool, .cmt, 0, 0x1, 1, 0x0, 2, false⟩,
   ⟨0x3010, 0x03, 0x03, .u 4, .rws, 0, 0xffffffff, 1, 0x0, 2, false⟩,
   ⟨0x3010, 0x04, 0x04, .blob 1 262144, .wo, 0, 0x0, 1, 0x0, 16, false⟩,
   ⟨0x3010, 0x05, 0x05, .blob 262144 262144, .ro, 0, 0x0, 1, 0x0, 16, false⟩,
   ⟨0x3020, 0x01, 0x01, .u 4, .rw, 0, 0xf4240, 1, 0x5dc0, 16, false⟩,
   ⟨0x3020, 0x02, 0x02, .u 4, .rw, 10, 0x2710, 1, 0xc8, 16, false⟩,
   ⟨0x3020, 0x03, 0x03, .u 4, .rw, 100, 0x186a0, 1, 0x7d0, 16, false⟩,
   ⟨0x3020, 0x04, 0x04, .u 4, .rw, 1, 0x2710, 1, 0x32, 16, false⟩,
   ⟨0x3020, 0x05, 0x05, .u 4, .rws, 0, 0xffffffff, 1, 0x0, 0, false⟩,
   ⟨0x3020, 0x06, 0x06, .table 64 8, .ro, 0, 0xffffffffffffffff, 1, 0x0, 16, false⟩,
   ⟨0x3020, 0x07, 0x07, .u 1, .rw, 1, 0x20, 1, 0x20, 16, false⟩,
   ⟨0x3020, 0x08, 0x08, .table 16 8, .ro, 0, 0xffffffffffffffff, 1, 0x0, 16, false⟩,
   ⟨0x3030, 0x01, 0x01, .table 96 1, .ro, 0, 0xff, 1, 0x0, 16, false⟩,
   ⟨0x3040, 0x01, 0x01, .blob 1 8388608, .wo, 0, 0x0, 1, 0x0, 16, false⟩,
   ⟨0x3040, 0x02, 0x02, .u 8, .ro, 0, 0xffffffffffffffff, 1, 0x0, 16, false⟩,
   ⟨0x3040, 0x03, 0x03, .blob 38 38, .cmt, 0, 0x0, 1, 0x0, 16, false⟩,
   ⟨0x3040, 0x04, 0x04, .bool, .cmt, 1, 0x1, 1, 0x0, 16, false⟩,
   ⟨0x3050, 0x01, 0x01, .table 256 32, .rws, 0, 0, 1, 0x0, 8, false⟩,
   ⟨0x3050, 0x02, 0x02, .bool, .cmt, 0, 0x1, 1, 0x0, 8, false⟩,
   ⟨0x4000, 0x01, 0x01, .bool, .cmt, 0, 0x1, 1, 0x0, 3, false⟩,
   ⟨0x4000, 0x02, 0x02, .blob 32 32, .ro, 0, 0x0, 1, 0x0, 16, false⟩,
   ⟨0x4010, 0x01, 0x01, .enum, .rws, 0, 0x3, 1, 0x0, 3, false⟩,
   ⟨0x4010, 0x02, 0x02, .enum, .rws, 0, 0x1, 1, 0x0, 3, false⟩,
   ⟨0x4010, 0x03, 0x03, .u 1, .rws, 1, 0xfe, 1, 0x7f, 3, false⟩,
   ⟨0x4010, 0x04, 0x04, .u 4, .rws, 0, 0xffffffff, 1, 0x0, 3, false⟩,
   ⟨0x4010, 0x05, 0x05, .u 8, .ro, 0, 0xffffffffffffffff, 1, 0x0, 16, false⟩,
   ⟨0x4010, 0x06, 0x06, .u 4, .ro, 0, 0xffffffff, 1, 0x0, 16, false⟩,
   ⟨0x4020, 0x01, 0x10, .u 4, .rws, 0, 0xffffffff, 1, 0x0, 3, false⟩,
   ⟨0x4030, 0x01, 0x01, .table 256 8, .rws, 0, 0xffffffffffffffff, 1, 0x0, 3, false⟩,
   ⟨0x4040, 0x01, 0x20, .blob 8 520, .rws, 0, 0x0, 1, 0x0, 3, false⟩,
   ⟨0x5000, 0x01, 0x01, .bool, .cmt, 0, 0x1, 1, 0x0, 4, false⟩,
   ⟨0x5010, 0x01, 0x01, .u 8, .rws, 0, 0xffffffffffffffff, 2097152, 0x0, 4, false⟩,
   ⟨0x5010, 0x02, 0x02, .u 8, .rws, 0, 0x400000000, 2097152, 0x0, 4, false⟩,
   ⟨0x5010, 0x03, 0x03, .u 8, .rws, 0, 0xffffffffffffffff, 64, 0x0, 4, false⟩,
   ⟨0x5010, 0x04, 0x04, .u 4, .rw, 1, 0x64, 1, 0x10, 16, false⟩,
   ⟨0x5010, 0x05, 0x05, .u 4, .rw, 1, 0x186a0, 1, 0x1f4, 16, false⟩]

def catalogue2 : List Entry :=
  [⟨0x5030, 0x01, 0x01, .u 8, .svc, 0, 0xffffffffffffffff, 1, 0x0, 16, false⟩,
   ⟨0x5030, 0x02, 0x02, .blob 32 32, .svcRo, 0, 0x0, 1, 0x0, 16, false⟩,
   ⟨0x6000, 0x01, 0x01, .bool, .cmt, 0, 0x1, 1, 0x0, 5, false⟩,
   ⟨0x6010, 0x01, 0x01, .u 1, .rws, 0, 0x3, 1, 0x0, 5, false⟩,
   ⟨0x6010, 0x02, 0x02, .u 4, .rws, 0, 0xffffffff, 1, 0x0, 5, false⟩,
   ⟨0x6010, 0x03, 0x03, .u 1, .rws, 1, 0x40, 1, 0x8, 5, false⟩,
   ⟨0x6020, 0x01, 0x04, .u 8, .rws, 0, 0xffffffffffffffff, 1, 0x0, 5, false⟩,
   ⟨0x6020, 0x05, 0x05, .u 4, .rws, 0, 0xffffffff, 1, 0x0, 5, false⟩,
   ⟨0x6030, 0x01, 0x01, .u 8, .ro, 0, 0xffffffffffffffff, 1, 0x0, 16, false⟩,
   ⟨0x6030, 0x02, 0x02, .u 8, .ro, 0, 0xffffffffffffffff, 1, 0x0, 16, false⟩,
   ⟨0x6030, 0x03, 0x03, .u 8, .ro, 0, 0xffffffffffffffff, 1, 0x0, 16, false⟩,
   ⟨0x6040, 0x01, 0x01, .u 4, .rw, 0, 0x186a0, 1, 0x7d0, 16, false⟩,
   ⟨0x6040, 0x02, 0x02, .u 8, .ro, 0, 0xffffffffffffffff, 1, 0x0, 16, false⟩,
   ⟨0x6050, 0x01, 0x01, .u 2, .ro, 0, 0xffff, 1, 0x0, 16, false⟩,
   ⟨0x6050, 0x02, 0x02, .u 2, .rw, 1, 0xffff, 1, 0x40, 16, false⟩,
   ⟨0x6050, 0x03, 0x03, .u 4, .rw, 1, 0xea60, 1, 0x64, 16, false⟩,
   ⟨0x6050, 0x04, 0x04, .u 1, .rw, 1, 0xff, 1, 0x10, 16, false⟩,
   ⟨0x6050, 0x05, 0x05, .table 4 4, .ro, 0, 0xffffffff, 1, 0x0, 16, false⟩,
   ⟨0x6060, 0x01, 0x01, .u 8, .rw, 0, 0xffffffffffffffff, 1, 0x0, 16, false⟩,
   ⟨0x6060, 0x02, 0x02, .u 8, .rw, 0, 0xffffffffffffffff, 1, 0x0, 16, false⟩,
   ⟨0x6060, 0x03, 0x03, .bool, .rw, 0, 0x1, 1, 0x0, 16, false⟩,
   ⟨0x7000, 0x01, 0x01, .bool, .cmt, 0, 0x1, 1, 0x0, 7, false⟩,
   ⟨0x7010, 0x01, 0x01, .u 4, .rw, 100, 0xf4240, 1, 0x1388, 16, false⟩,
   ⟨0x7010, 0x02, 0x02, .u 8, .ro, 0, 0xffffffffffffffff, 1, 0x0, 16, false⟩,
   ⟨0x7010, 0x03, 0x03, .u 8, .ro, 0, 0xffffffffffffffff, 1, 0x0, 16, false⟩,
   ⟨0x7020, 0x01, 0x01, .u 1, .rws, 0, 0xff, 1, 0xff, 6, false⟩,
   ⟨0x7020, 0x02, 0x02, .u 1, .rws, 0, 0xff, 1, 0xff, 6, false⟩,
   ⟨0x7020, 0x03, 0x03, .u 1, .rw, 1, 0x3f, 1, 0x2, 16, false⟩,
   ⟨0x7020, 0x04, 0x04, .u 4, .rws, 0, 0xffffffff, 1, 0x0, 6, false⟩,
   ⟨0x7020, 0x05, 0x05, .u 1, .rw, 0, 0x20, 1, 0x8, 16, false⟩,
   ⟨0x7020, 0x06, 0x06, .u 4, .rws, 0, 0xffffffff, 1, 0x0, 6, false⟩,
   ⟨0x7030, 0x01, 0x01, .table 4096 32, .rws, 0, 0, 1, 0x0, 6, false⟩,
   ⟨0x7030, 0x02, 0x02, .bool, .cmt, 0, 0x1, 1, 0x0, 6, false⟩,
   ⟨0x7030, 0x03, 0x03, .table 4096 16, .ro, 0, 0, 1, 0x0, 16, false⟩,
   ⟨0x7030, 0x04, 0x04, .u 8, .ro, 0, 0xffffffffffffffff, 1, 0x0, 16, false⟩,
   ⟨0x7040, 0x01, 0x01, .enum, .rws, 0, 0x1, 1, 0x0, 7, false⟩]

def catalogue3 : List Entry :=
  [⟨0x7040, 0x02, 0x02, .u 4, .rws, 0, 0xffffffff, 1, 0x0, 7, false⟩,
   ⟨0x7040, 0x03, 0x03, .u 4, .rws, 0, 0xffffffff, 1, 0x0, 7, false⟩,
   ⟨0x7040, 0x04, 0x04, .u 4, .rws, 0, 0xffffffff, 1, 0x0, 7, false⟩,
   ⟨0x7040, 0x05, 0x05, .u 4, .rws, 0, 0xffffffff, 1, 0x0, 7, false⟩,
   ⟨0x7040, 0x06, 0x06, .u 4, .rw, 100, 0xf4240, 1, 0x1388, 16, false⟩,
   ⟨0x7040, 0x07, 0x07, .u 8, .ro, 0, 0xffffffffffffffff, 1, 0x0, 16, false⟩,
   ⟨0x7040, 0x08, 0x08, .u 8, .ro, 0, 0xffffffffffffffff, 1, 0x0, 16, false⟩,
   ⟨0x7050, 0x01, 0x01, .u 4, .rws, 0, 0xffffffff, 1, 0x0, 7, false⟩,
   ⟨0x7050, 0x02, 0x02, .u 4, .rws, 0, 0xffffffff, 1, 0x0, 7, false⟩,
   ⟨0x7050, 0x03, 0x03, .u 4, .rws, 0, 0xffffffff, 1, 0x0, 7, false⟩,
   ⟨0x7050, 0x04, 0x04, .table 2 512, .ro, 0, 0, 1, 0x0, 16, false⟩,
   ⟨0x8000, 0x01, 0x01, .bool, .cmt, 0, 0x1, 1, 0x0, 9, true⟩,
   ⟨0x8010, 0x01, 0x01, .u 1, .rws, 1, 0xff, 1, 0x80, 9, true⟩,
   ⟨0x8010, 0x02, 0x02, .u 1, .rws, 0, 0x7f, 1, 0x10, 9, true⟩,
   ⟨0x8010, 0x03, 0x03, .u 4, .rws, 1, 0x3e8, 1, 0xa, 9, true⟩,
   ⟨0x8010, 0x04, 0x04, .u 4, .rws, 0, 0x36ee80, 1, 0x7530, 9, true⟩,
   ⟨0x8010, 0x05, 0x05, .u 4, .rws, 1000, 0x36ee80, 1, 0xea60, 9, true⟩,
   ⟨0x8010, 0x06, 0x06, .u 2, .rws, 1, 0x400, 1, 0x3e8, 9, true⟩,
   ⟨0x8010, 0x07, 0x07, .u 4, .rws, 100, 0xea60, 1, 0x7d0, 9, true⟩,
   ⟨0x8020, 0x01, 0x01, .u 4, .rw, 0, 0xffffffff, 1, 0x0, 16, true⟩,
   ⟨0x8020, 0x02, 0x02, .u 2, .rw, 0, 0xffff, 1, 0x3e8, 16, true⟩,
   ⟨0x8030, 0x01, 0x06, .blob 8 64, .rws, 0, 0x0, 1, 0x0, 9, true⟩,
   ⟨0x8040, 0x01, 0x01, .u 8, .ro, 0, 0xffffffffffffffff, 1, 0x0, 16, true⟩,
   ⟨0x8040, 0x02, 0x02, .table 2 16, .ro, 0, 0, 1, 0x0, 16, true⟩,
   ⟨0x8050, 0x01, 0x01, .table 2 16, .rws, 0, 0, 1, 0x0, 9, true⟩,
   ⟨0x9000, 0x01, 0x01, .u 8, .rw, 0, 0xffffffffffffffff, 1, 0x0, 16, true⟩,
   ⟨0x9000, 0x02, 0x02, .enum, .wo, 0, 0x2, 1, 0x0, 16, true⟩,
   ⟨0x9000, 0x03, 0x03, .u 8, .ro, 0, 0xffffffffffffffff, 1, 0x0, 16, true⟩,
   ⟨0x9000, 0x05, 0x05, .blob 1 8388608, .ro, 0, 0x0, 1, 0x0, 16, false⟩,
   ⟨0x9000, 0x06, 0x06, .blob 1 8388608, .ro, 0, 0x0, 1, 0x0, 16, true⟩,
   ⟨0xa000, 0x01, 0x01, .table 64 32, .ro, 0, 0, 1, 0x0, 16, true⟩,
   ⟨0xa000, 0x02, 0x02, .u 1, .ro, 0, 0xff, 1, 0x0, 16, true⟩,
   ⟨0xa010, 0x01, 0x01, .bool, .rw, 0, 0x1, 1, 0x1, 16, true⟩,
   ⟨0xb000, 0x01, 0x01, .bool, .cmt, 0, 0x1, 1, 0x0, 11, true⟩,
   ⟨0xb010, 0x01, 0x01, .table 40 4, .ro, 0, 0xffffffff, 1, 0x0, 16, true⟩,
   ⟨0xb020, 0x01, 0x01, .u 4, .rw, 0, 0xffffffff, 1, 0x800, 16, false⟩]

def catalogue4 : List Entry :=
  [⟨0xb020, 0x02, 0x02, .bool, .rw, 0, 0x1, 1, 0x1, 16, false⟩,
   ⟨0xb030, 0x01, 0x01, .u 2, .rws, 30, 0x86, 1, 0x86, 11, true⟩,
   ⟨0xb030, 0x02, 0x02, .u 2, .ro, 0, 0xffff, 1, 0x0, 16, true⟩,
   ⟨0xb040, 0x01, 0x01, .table 7 4, .ro, 0, 0xffffffff, 1, 0x0, 16, false⟩,
   ⟨0xb050, 0x01, 0x01, .u 1, .wo, 0, 0xff, 1, 0x0, 16, true⟩,
   ⟨0xb050, 0x02, 0x02, .u 4, .rw, 1, 0xf4240, 1, 0x2710, 16, false⟩,
   ⟨0xb050, 0x03, 0x03, .u 8, .ro, 0, 0xffffffffffffffff, 1, 0x0, 16, false⟩,
   ⟨0xc000, 0x01, 0x01, .enum, .ro, 0, 0x4, 1, 0x0, 16, true⟩,
   ⟨0xc000, 0x02, 0x02, .u 8, .ro, 0, 0xffffffffffffffff, 1, 0x0, 16, true⟩,
   ⟨0xc000, 0x03, 0x03, .u 8, .ro, 0, 0xffffffffffffffff, 1, 0x0, 16, true⟩,
   ⟨0xc010, 0x01, 0x01, .table 16 1, .ro, 0, 0xff, 1, 0x0, 16, true⟩,
   ⟨0xc010, 0x02, 0x02, .blob 88 88, .wo, 0, 0x0, 1, 0x0, 16, true⟩,
   ⟨0xc010, 0x03, 0x03, .bool, .wo, 1, 0x1, 1, 0x0, 16, true⟩,
   ⟨0xc010, 0x04, 0x04, .u 1, .wo, 1, 0x3, 1, 0x0, 16, true⟩,
   ⟨0xc020, 0x01, 0x01, .table 32 1, .rws, 0, 0xff, 1, 0x0, 12, true⟩,
   ⟨0xc020, 0x02, 0x02, .bool, .cmt, 0, 0x1, 1, 0x0, 12, true⟩,
   ⟨0xc030, 0x01, 0x01, .u 8, .svc, 0, 0xffffffffffffffff, 1, 0x0, 16, false⟩,
   ⟨0xc030, 0x02, 0x02, .table 2 8, .svc, 0, 0xffffffffffffffff, 1, 0x0, 16, false⟩,
   ⟨0xd000, 0x01, 0x01, .bool, .cmt, 0, 0x1, 1, 0x0, 10, false⟩,
   ⟨0xd010, 0x01, 0x01, .u 4, .rws, 0, 0x93a80, 1, 0x0, 10, false⟩,
   ⟨0xd010, 0x02, 0x02, .u 2, .rws, 0, 0xffff, 1, 0xffff, 10, false⟩,
   ⟨0xd010, 0x03, 0x03, .u 4, .rws, 1, 0x1000000, 1, 0x1000, 10, false⟩,
   ⟨0xd010, 0x04, 0x04, .u 4, .rws, 1, 0x186a0, 1, 0x1f4, 10, false⟩,
   ⟨0xd010, 0x05, 0x05, .u 1, .rws, 0, 0x4, 1, 0x0, 10, false⟩,
   ⟨0xd010, 0x06, 0x06, .u 4, .rws, 0, 0xffffffff, 1, 0x0, 10, false⟩,
   ⟨0xd010, 0x07, 0x07, .u 4, .rws, 0, 0xffffffff, 1, 0x0, 10, false⟩,
   ⟨0xd020, 0x01, 0x01, .u 8, .ro, 0, 0xffffffffffffffff, 1, 0x0, 16, false⟩,
   ⟨0xd020, 0x02, 0x02, .u 8, .ro, 0, 0xffffffffffffffff, 1, 0x0, 16, false⟩]

/-- Every entry that is not a counter. -/
def catalogue : List Entry := catalogue0 ++ catalogue1 ++ catalogue2 ++ catalogue3 ++ catalogue4

def counters0 : List (Nat × Nat × Nat × Bool) :=
  [(0x9010, 0x01, 1, false), (0x9010, 0x02, 1, false), (0x9010, 0x03, 1, false), (0x9010, 0x04, 1, false), (0x9010, 0x05, 1, false), (0x9010, 0x06, 4, false),
   (0x9010, 0x07, 1, false), (0x9020, 0x01, 8, false), (0x9020, 0x02, 8, false), (0x9020, 0x03, 1, false), (0x9020, 0x04, 1, false),
   (0x9020, 0x05, 1, false), (0x9020, 0x06, 1, false), (0x9020, 0x07, 1, false), (0x9020, 0x08, 1, false), (0x9030, 0x01, 4, false),
   (0x9030, 0x02, 4, false), (0x9030, 0x03, 4, false), (0x9030, 0x04, 1, false), (0x9030, 0x05, 1, false), (0x9030, 0x06, 1, false),
   (0x9030, 0x07, 1, false), (0x9030, 0x08, 1, false), (0x9040, 0x01, 64, false), (0x9050, 0x01, 1, false), (0x9050, 0x02, 1, false),
   (0x9050, 0x03, 1, false), (0x9050, 0x04, 1, false), (0x9050, 0x05, 1, false), (0x9050, 0x06, 1, false), (0x9050, 0x07, 1, false),
   (0x9050, 0x08, 1, false), (0x9050, 0x09, 1, false), (0x9060, 0x01, 1, false), (0x9060, 0x02, 1, false), (0x9060, 0x03, 1, false),
   (0x9060, 0x04, 1, false), (0x9060, 0x05, 1, false), (0x9060, 0x06, 1, false), (0x9060, 0x07, 1, false), (0x9060, 0x08, 1, false)]

def counters1 : List (Nat × Nat × Nat × Bool) :=
  [(0x9060, 0x09, 1, false), (0x9060, 0x0a, 1, false), (0x9060, 0x0b, 1, false), (0x9060, 0x0c, 1, false), (0x9060, 0x0d, 1, false),
   (0x9070, 0x01, 1, false), (0x9070, 0x02, 1, false), (0x9070, 0x03, 1, false), (0x9070, 0x04, 1, false), (0x9070, 0x05, 1, false),
   (0x9070, 0x06, 1, false), (0x9070, 0x07, 1, false), (0x9070, 0x08, 1, false), (0x9070, 0x09, 1, false), (0x9070, 0x0a, 1, false),
   (0x9080, 0x01, 1, false), (0x9080, 0x02, 1, false), (0x9080, 0x03, 1, false), (0x9080, 0x04, 1, false), (0x9080, 0x05, 1, false),
   (0x9080, 0x06, 1, false), (0x9080, 0x07, 1, false), (0x9080, 0x08, 1, false), (0x9080, 0x09, 1, false), (0x9080, 0x0a, 1, false),
   (0x9090, 0x01, 1, false), (0x9090, 0x02, 1, false), (0x9090, 0x03, 1, false), (0x9090, 0x04, 1, false), (0x9090, 0x05, 1, false),
   (0x9090, 0x06, 1, false), (0x9090, 0x07, 1, false), (0x9090, 0x08, 1, false), (0x9090, 0x09, 1, false), (0x90a0, 0x01, 1, false),
   (0x90a0, 0x02, 1, false), (0x90a0, 0x03, 1, false), (0x90a0, 0x04, 1, false), (0x90a0, 0x05, 1, false), (0x90a0, 0x06, 1, false)]

def counters2 : List (Nat × Nat × Nat × Bool) :=
  [(0x90a0, 0x07, 1, false), (0x90a0, 0x08, 1, false), (0x90b0, 0x01, 1, false), (0x90b0, 0x02, 4, false), (0x90b0, 0x03, 1, false),
   (0x90b0, 0x04, 1, false), (0x90b0, 0x05, 1, false), (0x90b0, 0x06, 1, false), (0x90b0, 0x07, 1, false), (0x90b0, 0x08, 1, false),
   (0x90b0, 0x09, 1, false), (0x90b0, 0x0a, 1, false), (0x90b0, 0x0b, 1, false), (0x90b0, 0x0c, 1, false), (0x90b0, 0x0d, 1, false),
   (0x90b0, 0x0e, 1, false), (0x90c0, 0x01, 1, true), (0x90c0, 0x02, 1, true), (0x90c0, 0x03, 1, true), (0x90c0, 0x04, 1, true),
   (0x90c0, 0x05, 1, true), (0x90c0, 0x06, 1, false), (0x90c0, 0x07, 1, false), (0x90c0, 0x08, 1, false), (0x90c0, 0x09, 1, false),
   (0x90d0, 0x01, 1, true), (0x90d0, 0x02, 1, true), (0x90d0, 0x03, 1, true), (0x90d0, 0x04, 1, true), (0x90e0, 0x01, 1, false),
   (0x90e0, 0x02, 1, false), (0x90e0, 0x03, 1, false), (0x90e0, 0x04, 1, false)]

/-- The counters: index, sub-index, number of U64 words, group scope (14 R378). -/
def counterList : List (Nat × Nat × Nat × Bool) := counters0 ++ counters1 ++ counters2

/-- A counter as a catalogue entry. -/
def counterEntry (c : Nat × Nat × Nat × Bool) : Entry :=
  { index := c.1, first := c.2.1, last := c.2.1, ty := if c.2.2.1 == 1 then .u 8 else .table c.2.2.1 8, right := .ro,
    lo := 0, hi := 2 ^ 64 - 1, align := 1, dflt := 0, group := 16, shared := c.2.2.2 }

/-- The entry of an index and sub-index other than 0. -/
def findEntry (index sub : Nat) : Option Entry :=
  let l := if 0x9010 ≤ index && index ≤ 0x90ff then counterList.map counterEntry else catalogue
  l.find? (fun e => e.index == index && e.first ≤ sub && sub ≤ e.last)

/-- The highest sub-index in use at an index: the value of sub-index 0 (13 R356). -/
def highestSub (index : Nat) : Option Nat :=
  let l := (if 0x9010 ≤ index && index ≤ 0x90ff then counterList.map counterEntry else catalogue).filter
    (fun e => e.index == index)
  match l with
  | [] => none
  | _ => some (l.foldl (fun m e => max m e.last) 0)

/-! Register names: index and sub-index. -/

def cntAborts : Nat × Nat := (0x9070, 0x02)
def regAccCloseTimeout : Nat × Nat := (0x5010, 0x05)
def regAccCommit : Nat × Nat := (0x5000, 0x01)
def cntAccLateNaks : Nat × Nat := (0x9050, 0x08)
def cntAccNonfiniteTiles : Nat × Nat := (0x9050, 0x04)
def cntAccOpenWaitCycles : Nat × Nat := (0x9050, 0x07)
def regAccOpenWaitTimeout : Nat × Nat := (0x5010, 0x04)
def cntAccOverflowTiles : Nat × Nat := (0x9050, 0x05)
def regAccPeek : Nat × Nat := (0x5030, 0x02)
def regAccPeekSelect : Nat × Nat := (0x5030, 0x01)
def regAccRecordBase : Nat × Nat := (0x5010, 0x03)
def cntAccRecordMisses : Nat × Nat := (0x9050, 0x03)
def regAccRegionBase : Nat × Nat := (0x5010, 0x01)
def regAccRegionSize : Nat × Nat := (0x5010, 0x02)
def cntAccResidentDenied : Nat × Nat := (0x9050, 0x09)
def cntAccTilesCached : Nat × Nat := (0x9050, 0x01)
def cntAccTilesHbm : Nat × Nat := (0x9050, 0x02)
def cntAccTruncated : Nat × Nat := (0x9050, 0x06)
def cntApertureFails : Nat × Nat := (0x90a0, 0x02)
def cntApertureNsLast : Nat × Nat := (0x90a0, 0x03)
def regApertureTimeout : Nat × Nat := (0x7040, 0x06)
def cntApertures : Nat × Nat := (0x90a0, 0x01)
def regArchiveBase0 : Nat × Nat := (0x7050, 0x01)
def regArchiveBase1 : Nat × Nat := (0x7050, 0x02)
def regArchivePanes : Nat × Nat := (0x7050, 0x03)
def regAuditCommit : Nat × Nat := (0x6000, 0x01)
def regAuditMode : Nat × Nat := (0x6010, 0x01)
def regAuditRingBase : Nat × Nat := (0x6010, 0x02)
def regAuditSteps : Nat × Nat := (0x6010, 0x03)
def regAuthChallenge : Nat × Nat := (0xc010, 0x01)
def regAuthRequest : Nat × Nat := (0xc010, 0x02)
def regAutofillEnable : Nat × Nat := (0xb020, 0x02)
def cntBadKind : Nat × Nat := (0x9030, 0x06)
def cntBarrierLastNs : Nat × Nat := (0x9070, 0x0a)
def regBringupReport : Nat × Nat := (0xb040, 0x01)
def regCeBucketLevel : Nat × Nat := (0x6050, 0x01)
def cntCeBucketOverflows : Nat × Nat := (0x90b0, 0x0d)
def regCeBucketThreshold : Nat × Nat := (0x6050, 0x02)
def regCeLeakInterval : Nat × Nat := (0x6050, 0x03)
def cntChainRestarts : Nat × Nat := (0x9090, 0x06)
def regChainTimeout : Nat × Nat := (0x3020, 0x02)
def regChainsMax : Nat × Nat := (0x3020, 0x07)
def regChipId : Nat × Nat := (0x1000, 0x0b)
def cntChunksReceived : Nat × Nat := (0x9030, 0x03)
def cntChunksSent : Nat × Nat := (0x9030, 0x02)
def regClockStatus : Nat × Nat := (0xb010, 0x01)
def cntCoeffParityErrors : Nat × Nat := (0x9020, 0x07)
def regCoeffTable : Nat × Nat := (0x3030, 0x01)
def cntColdFolds : Nat × Nat := (0x9080, 0x09)
def regColdGatherBase : Nat × Nat := (0x7020, 0x06)
def regColdRepairBase : Nat × Nat := (0x7020, 0x04)
def regColdRepairStatus : Nat × Nat := (0x7030, 0x04)
def cntColdRepairs : Nat × Nat := (0x9080, 0x0a)
def regCommitTimeout : Nat × Nat := (0x2090, 0x02)
def cntCommits : Nat × Nat := (0x9070, 0x01)
def regCommittedStep : Nat × Nat := (0x4010, 0x06)
def cntCrcFails : Nat × Nat := (0x90b0, 0x02)
def regCurve : Nat × Nat := (0x4040, 0x01)
def cntDecodeCacheMisses : Nat × Nat := (0x9020, 0x08)
def regDegradedRanges : Nat × Nat := (0x3020, 0x06)
def cntDegradedReads : Nat × Nat := (0x9090, 0x07)
def cntDeltaBytesRaw : Nat × Nat := (0x9060, 0x03)
def cntDeltaBytesSent : Nat × Nat := (0x9060, 0x04)
def cntDeltaDuplicates : Nat × Nat := (0x9070, 0x05)
def cntDeltaFolds : Nat × Nat := (0x9070, 0x03)
def regDeltaGatherBase : Nat × Nat := (0x2090, 0x01)
def regDescBase : Nat × Nat := (0x2070, 0x01)
def regDescCount : Nat × Nat := (0x2070, 0x02)
def regDetectorView : Nat × Nat := (0x8040, 0x02)
def regDeviceId : Nat × Nat := (0x1000, 0x01)
def regDictFormat : Nat × Nat := (0x1000, 0x0a)
def cntDigestMismatches : Nat × Nat := (0x90b0, 0x03)
def regDrainTimeout : Nat × Nat := (0xb050, 0x02)
def cntDrainsConverted : Nat × Nat := (0x90e0, 0x02)
def regDrillCommit : Nat × Nat := (0xd000, 0x01)
def regDrillDepth : Nat × Nat := (0xd010, 0x05)
def regDrillLast : Nat × Nat := (0xd020, 0x01)
def cntDrillMismatches : Nat × Nat := (0x90c0, 0x08)
def regDrillPeriod : Nat × Nat := (0xd010, 0x01)
def regDrillPosition : Nat × Nat := (0xd020, 0x02)
def regDrillRegionBase : Nat × Nat := (0xd010, 0x06)
def regDrillRegionPanes : Nat × Nat := (0xd010, 0x07)
def cntDrillRows : Nat × Nat := (0x90c0, 0x07)
def regDrillRows : Nat × Nat := (0xd010, 0x03)
def regDrillShare : Nat × Nat := (0xd010, 0x04)
def regDrillWindows : Nat × Nat := (0xd010, 0x02)
def cntDrills : Nat × Nat := (0x90c0, 0x06)
def cntDrillsSkipped : Nat × Nat := (0x90c0, 0x09)
def regEngineCommit : Nat × Nat := (0x2000, 0x01)
def regEngineId : Nat × Nat := (0x1000, 0x03)
def regEnrolStep : Nat × Nat := (0x3010, 0x03)
def regEventInfoEnable : Nat × Nat := (0xa010, 0x01)
def regEventLog : Nat × Nat := (0xa000, 0x01)
def regEventLogHead : Nat × Nat := (0xa000, 0x02)
def cntEventOverflows : Nat × Nat := (0x90d0, 0x02)
def cntEventsRaised : Nat × Nat := (0x90d0, 0x01)
def cntEventsSuppressed : Nat × Nat := (0x90d0, 0x03)
def regFabricResendTimeout : Nat × Nat := (0x2040, 0x05)
def cntFacetQueueFull : Nat × Nat := (0x9020, 0x02)
def cntFacetResets : Nat × Nat := (0x90e0, 0x04)
def cntFacetSatCycles : Nat × Nat := (0x9020, 0x01)
def regFacets : Nat × Nat := (0x1000, 0x04)
def regFillGapMax : Nat × Nat := (0xb020, 0x01)
def regFlipmaskArm : Nat × Nat := (0x6060, 0x03)
def regFlipmaskTarget : Nat × Nat := (0x6060, 0x01)
def regFlipmaskValue : Nat × Nat := (0x6060, 0x02)
def regFoldFacets : Nat × Nat := (0x2030, 0x01)
def cntFreezeHoldCycles : Nat × Nat := (0x9090, 0x09)
def regFuseWord : Nat × Nat := (0x1000, 0x08)
def cntGenCommits : Nat × Nat := (0x9090, 0x02)
def regGenHoldTimeout : Nat × Nat := (0x3020, 0x03)
def cntGenHolds : Nat × Nat := (0x9030, 0x07)
def cntGenNaksSent : Nat × Nat := (0x9090, 0x03)
def cntGenResends : Nat × Nat := (0x9090, 0x04)
def regGenRetryInterval : Nat × Nat := (0x3020, 0x04)
def cntGnormSpikes : Nat × Nat := (0x90c0, 0x02)
def cntGparityFolds : Nat × Nat := (0x9070, 0x04)
def regGroupLatchImage : Nat × Nat := (0x9000, 0x06)
def regGroupPowerLimit : Nat × Nat := (0xb030, 0x01)
def regGroupStatus : Nat × Nat := (0x2000, 0x10)
def cntHbmErasures : Nat × Nat := (0x90b0, 0x0a)
def regHealthCommit : Nat × Nat := (0x8000, 0x01)
def cntHoldersRepaired : Nat × Nat := (0x9070, 0x08)
def cntInflightFullCycles : Nat × Nat := (0x9010, 0x05)
def regInputStale : Nat × Nat := (0x8010, 0x07)
def cntInstrIssued : Nat × Nat := (0x9010, 0x01)
def regJobArm : Nat × Nat := (0x3040, 0x03)
def regJobBlob : Nat × Nat := (0x3040, 0x01)
def regJobEnd : Nat × Nat := (0x3040, 0x04)
def regJobState : Nat × Nat := (0x3040, 0x02)
def regKLimit : Nat × Nat := (0x1000, 0x05)
def regKeyCommit : Nat × Nat := (0xc020, 0x02)
def cntLaneResidueErrors : Nat × Nat := (0x9060, 0x0b)
def regLastDecision : Nat × Nat := (0x4010, 0x05)
def regLastReset : Nat × Nat := (0xb050, 0x03)
def regLastStage : Nat × Nat := (0x1000, 0x07)
def regLatchArm : Nat × Nat := (0x9000, 0x02)
def regLatchAt : Nat × Nat := (0x9000, 0x01)
def regLatchImage : Nat × Nat := (0x9000, 0x05)
def regLatchStatus : Nat × Nat := (0x9000, 0x03)
def regLcAdvance : Nat × Nat := (0xc010, 0x04)
def regLcFuses : Nat × Nat := (0xc000, 0x02)
def regLcRelock : Nat × Nat := (0xc010, 0x03)
def regLcState : Nat × Nat := (0xc000, 0x01)
def regLcStatus : Nat × Nat := (0xc000, 0x03)
def regLedgerPeek : Nat × Nat := (0xc030, 0x02)
def regLedgerPeekSelect : Nat × Nat := (0xc030, 0x01)
def regLendEngineEnable : Nat × Nat := (0x2060, 0x02)
def regLendFacetEnable : Nat × Nat := (0x2060, 0x01)
def cntLentEngineOut : Nat × Nat := (0x9020, 0x04)
def cntLentFacet : Nat × Nat := (0x9020, 0x03)
def regLinkRetries : Nat × Nat := (0x8020, 0x01)
def cntLossSpikes : Nat × Nat := (0x90c0, 0x01)
def cntLossSuspects : Nat × Nat := (0x9090, 0x01)
def regMacroRetireThreshold : Nat × Nat := (0x6050, 0x04)
def regManifestView : Nat × Nat := (0x7050, 0x04)
def regMapCommit : Nat × Nat := (0x3010, 0x02)
def regMapGen : Nat × Nat := (0x3000, 0x02)
def regMapStage : Nat × Nat := (0x3010, 0x01)
def cntMemRequests : Nat × Nat := (0x9010, 0x06)
def regMemberSlot : Nat × Nat := (0x3000, 0x03)
def cntMigratePanes : Nat × Nat := (0x9080, 0x02)
def cntMigrateUnchanged : Nat × Nat := (0x9080, 0x03)
def regMirrorCommit : Nat × Nat := (0x3050, 0x02)
def cntMirrorCompareSkipped : Nat × Nat := (0x90b0, 0x04)
def cntMirrorCopies : Nat × Nat := (0x9090, 0x08)
def regMirrorMap : Nat × Nat := (0x3050, 0x01)
def cntMirrorPanes : Nat × Nat := (0x9060, 0x0c)
def cntMirrorStale : Nat × Nat := (0x9060, 0x0d)
def regMirrorWaitTimeout : Nat × Nat := (0x2080, 0x02)
def regNondetCount : Nat × Nat := (0x6030, 0x01)
def regNondetNonexact : Nat × Nat := (0x6030, 0x03)
def regNondetRelocations : Nat × Nat := (0x6030, 0x02)
def cntNonfiniteSteprecs : Nat × Nat := (0x90c0, 0x03)
def regNormAnchor : Nat × Nat := (0x4010, 0x03)
def cntNormTruncated : Nat × Nat := (0x9060, 0x09)
def cntOpsAbsorbed : Nat × Nat := (0x90e0, 0x03)
def cntOpsCompleted : Nat × Nat := (0x9010, 0x02)
def cntOpsError : Nat × Nat := (0x9010, 0x03)
def cntPaneDigests : Nat × Nat := (0x90b0, 0x01)
def cntPanesInstalled : Nat × Nat := (0x9090, 0x05)
def cntParcelsApplied : Nat × Nat := (0x9080, 0x05)
def cntParcelsWritten : Nat × Nat := (0x9080, 0x04)
def cntPendRingWaitCycles : Nat × Nat := (0x9080, 0x06)
def regPendWarnMargin : Nat × Nat := (0x7020, 0x03)
def regPoolWindow : Nat × Nat := (0x7020, 0x02)
def regPositionState : Nat × Nat := (0x1000, 0x06)
def cntPowerCapCycles : Nat × Nat := (0x90e0, 0x01)
def regPowerCommit : Nat × Nat := (0xb000, 0x01)
def regPowerEstimate : Nat × Nat := (0xb030, 0x02)
def cntPrefetchPanes : Nat × Nat := (0x9080, 0x01)
def regProgramDir : Nat × Nat := (0x4020, 0x01)
def cntRampCycles : Nat × Nat := (0x9020, 0x05)
def regRebuildMapBase : Nat × Nat := (0x3020, 0x05)
def regRebuildProgress : Nat × Nat := (0x3020, 0x08)
def regRebuildShare : Nat × Nat := (0x3020, 0x01)
def cntResends : Nat × Nat := (0x9030, 0x04)
def regResetRequest : Nat × Nat := (0xb050, 0x01)
def cntResets : Nat × Nat := (0x9010, 0x07)
def regResidency : Nat × Nat := (0x7030, 0x01)
def regResidencyCommit : Nat × Nat := (0x7030, 0x02)
def regResidencyView : Nat × Nat := (0x7030, 0x03)
def cntRestoreDigestMismatch : Nat × Nat := (0x90a0, 0x08)
def cntRestorePanesLoaded : Nat × Nat := (0x90a0, 0x07)
def regRetiredMacros : Nat × Nat := (0x6050, 0x05)
def regRingExport : Nat × Nat := (0x3010, 0x05)
def regRingImport : Nat × Nat := (0x3010, 0x04)
def regRiskCurve : Nat × Nat := (0x8030, 0x01)
def regRiskHysteresis : Nat × Nat := (0x8010, 0x02)
def regRiskPeriod : Nat × Nat := (0x8010, 0x03)
def regRiskRepeat : Nat × Nat := (0x8010, 0x04)
def regRiskStepWindow : Nat × Nat := (0x8010, 0x06)
def regRiskThreshold : Nat × Nat := (0x8010, 0x01)
def regRiskView : Nat × Nat := (0x8040, 0x01)
def regRiskWindowMs : Nat × Nat := (0x8010, 0x05)
def cntRowsInconsistent : Nat × Nat := (0x90b0, 0x06)
def cntRowsRecomputed : Nat × Nat := (0x9070, 0x07)
def cntRowsReconciled : Nat × Nat := (0x9070, 0x06)
def regSatThreshold : Nat × Nat := (0x2060, 0x03)
def cntScrubMismatches : Nat × Nat := (0x90b0, 0x08)
def regScrubPosition : Nat × Nat := (0x6040, 0x02)
def cntScrubRows : Nat × Nat := (0x90b0, 0x07)
def regScrubShare : Nat × Nat := (0x6040, 0x01)
def cntScrubSkipped : Nat × Nat := (0x90b0, 0x09)
def cntSecureRequests : Nat × Nat := (0x90c0, 0x05)
def regServiceKey : Nat × Nat := (0xc020, 0x01)
def regShadowBase : Nat × Nat := (0x7040, 0x04)
def regShadowPanes : Nat × Nat := (0x7040, 0x05)
def cntShadowSetAside : Nat × Nat := (0x90a0, 0x06)
def cntSilentCorruptions : Nat × Nat := (0x90b0, 0x05)
def regSiliconRev : Nat × Nat := (0x1000, 0x09)
def cntSilverAheadPanes : Nat × Nat := (0x90a0, 0x05)
def cntSilverPanes : Nat × Nat := (0x90a0, 0x04)
def regSkipPolicy : Nat × Nat := (0x4010, 0x02)
def regSnapCommit : Nat × Nat := (0x7000, 0x01)
def regSnapMode : Nat × Nat := (0x7040, 0x01)
def regSnapNeed : Nat × Nat := (0x7040, 0x07)
def regSnapStageBase : Nat × Nat := (0x7040, 0x02)
def regSnapStagePanes : Nat × Nat := (0x7040, 0x03)
def regSnapState : Nat × Nat := (0x7040, 0x08)
def regSpikeParams : Nat × Nat := (0x8050, 0x01)
def cntSaturations : Nat × Nat := (0x9010, 0x04)
def cntSramCorrected : Nat × Nat := (0x90b0, 0x0b)
def cntSramUncorrectable : Nat × Nat := (0x90b0, 0x0c)
def regStageWaitTimeout : Nat × Nat := (0x2070, 0x03)
def regStepMode : Nat × Nat := (0x4010, 0x01)
def regStepRingBase : Nat × Nat := (0x4010, 0x04)
def cntSteprecRepeats : Nat × Nat := (0x90c0, 0x04)
def cntStepsClipped : Nat × Nat := (0x9060, 0x08)
def cntStepsSkipped : Nat × Nat := (0x9060, 0x07)
def regStreamFacet : Nat × Nat := (0x2010, 0x01)
def cntStreamHeldCycles : Nat × Nat := (0x9040, 0x01)
def regStripeMap : Nat × Nat := (0x3000, 0x01)
def cntStubDiscards : Nat × Nat := (0x90d0, 0x04)
def cntSweepCreditStalls : Nat × Nat := (0x9060, 0x05)
def cntSweepNonfinite : Nat × Nat := (0x9060, 0x0a)
def regSweepPaneSlots : Nat × Nat := (0x2080, 0x01)
def cntSweepPanes : Nat × Nat := (0x9060, 0x02)
def cntSweepParams : Nat × Nat := (0x9060, 0x01)
def cntSweepSlotStalls : Nat × Nat := (0x9060, 0x06)
def regTap : Nat × Nat := (0x6020, 0x01)
def cntTapHoldCycles : Nat × Nat := (0x90b0, 0x0e)
def regTapRingBase : Nat × Nat := (0x6020, 0x05)
def regThermalMargin : Nat × Nat := (0x8020, 0x02)
def regTierBgShare : Nat × Nat := (0x7020, 0x05)
def regTierDirWindow : Nat × Nat := (0x7020, 0x01)
def cntTierErrors : Nat × Nat := (0x9080, 0x08)
def regTierHpaBase : Nat × Nat := (0x7010, 0x02)
def regTierHpaLimit : Nat × Nat := (0x7010, 0x03)
def cntTierLate : Nat × Nat := (0x9080, 0x07)
def cntTierLateDiscards : Nat × Nat := (0x9030, 0x08)
def regTierLateTimeout : Nat × Nat := (0x7010, 0x01)
def cntTornWrites : Nat × Nat := (0x9070, 0x09)
def regUcodeTable : Nat × Nat := (0x4030, 0x01)
def cntUnmatchedResponses : Nat × Nat := (0x9030, 0x05)
def regUpdateCommit : Nat × Nat := (0x4000, 0x01)
def regUpdateDigest : Nat × Nat := (0x4000, 0x02)
def regVariant : Nat × Nat := (0x1000, 0x02)
def regVcCommit : Nat × Nat := (0x2040, 0x08)
def cntVcCreditStalls : Nat × Nat := (0x9030, 0x01)
def regVcWeightB : Nat × Nat := (0x2040, 0x03)
def regVcWeightD : Nat × Nat := (0x2040, 0x01)
def regVcWeightG : Nat × Nat := (0x2040, 0x02)
def regVcWeightS : Nat × Nat := (0x2040, 0x04)
def cntXbarBudgetDenied : Nat × Nat := (0x9020, 0x06)
def regXbarLendBudget : Nat × Nat := (0x2060, 0x04)

/-- A microinstruction of 06 R170 from its fields; IMM 0. -/
def uop (op dst a b c field : Nat) : Nat :=
  put op 6 58 + put dst 4 54 + put a 6 48 + put b 6 42 + put c 6 36 + put field 4 32

/-- AdamW (06 R172), table entries 0x00 to 0x15. -/
def stockAdamW : List Nat :=
  [uop 1 0 0 0 0 0, uop 1 1 0 0 0 1, uop 1 2 0 0 0 2, uop 2 3 0 0 0 0, uop 0xa 3 3 0x30 0 0, uop 0xa 4 0x17 3 0 0,
   uop 0xc 1 0x11 1 4 0, uop 0xa 5 3 3 0 0, uop 0xa 5 0x18 5 0 0, uop 0xc 2 0x12 2 5 0, uop 0xa 6 2 0x16 0 0,
   uop 0xd 6 6 0 0 0, uop 8 6 6 0x13 0 0, uop 0xa 7 1 0x15 0 0, uop 0xb 7 7 6 0 0, uop 0xc 7 0x14 0 7 0,
   uop 0xa 7 7 0x10 0 0, uop 9 0 0 7 0 0, uop 3 0 0 0 0 0, uop 3 0 1 0 0 1, uop 3 0 2 0 0 2, 0]

/-- Lion (06 R172), table entries 0x16 to 0x24. -/
def stockLion : List Nat :=
  [uop 1 0 0 0 0 0, uop 1 1 0 0 0 1, uop 2 3 0 0 0 0, uop 0xa 3 3 0x30 0 0, uop 0xa 4 0x17 3 0 0,
   uop 0xc 4 0x11 1 4 0, uop 0x12 4 4 0 0 0, uop 0xc 4 0x14 0 4 0, uop 0xa 4 4 0x10 0 0, uop 9 0 0 4 0 0,
   uop 0xa 5 0x18 3 0 0, uop 0xc 1 0x12 1 5 0, uop 3 0 0 0 0 0, uop 3 0 1 0 0 1, 0]

/-- SGD with momentum (06 R172), table entries 0x25 to 0x2F. -/
def stockSgd : List Nat :=
  [uop 1 0 0 0 0 0, uop 1 1 0 0 0 1, uop 2 3 0 0 0 0, uop 0xa 3 3 0x30 0 0, uop 0xc 3 0x14 0 3 0,
   uop 0xc 1 0x11 1 3 0, uop 0xa 4 1 0x10 0 0, uop 9 0 0 4 0 0, uop 3 0 0 0 0 0, uop 3 0 1 0 0 1, 0]

/-- The default of an element of *UCODE_TABLE*. -/
def stockWord (i : Nat) : Nat := (stockAdamW ++ stockLion ++ stockSgd).getD i 0

/-- The default of a scalar or table element; `six` on a BT-9E (15 R399). -/
def defaultWord (six : Bool) (e : Entry) (sub elem : Nat) : Nat :=
  if e.index == 0x2010 then (sub - 1) % (if six then 6 else 8)
  else if e.index == 0x2030 then (if six then 0x30 else 0xc0)
  else if e.index == 0x4020 then [0x9600, 0x8f16, 0x8b25].getD (sub - 1) 0
  else if e.index == 0x4030 then stockWord elem
  else if e.index == 0x7030 && sub == 1 then 8 * 2 ^ 248 + 8 * 2 ^ 121
  else if e.index == 0x8050 then 0x3c23d70a * 2 ^ 96 + 0x40c00000 * 2 ^ 64 + 0x3a83126f * 2 ^ 32 + 100
  else e.dflt

/-- A risk-curve point: x in [63:32], w in [7:0] (14 R386). -/
def riskPoint (x w : Nat) : List Byte := leBytes (x * 2 ^ 32 + w) 8

/-- The default of a BLOB (06 R188, 14 R388). -/
def defaultBlob (index sub : Nat) : List Byte :=
  if index == 0x4040 then zeros 8
  else if index == 0x8030 then
    match sub with
    | 1 => riskPoint 0 0 ++ riskPoint 64 40 ++ riskPoint 512 120
    | 2 => riskPoint 0 0 ++ riskPoint 100 20 ++ riskPoint 10000 100
    | 3 => riskPoint 0 120 ++ riskPoint 50 40 ++ riskPoint 150 0
    | 4 => riskPoint 0 0 ++ riskPoint 1 30 ++ riskPoint 8 128
    | 5 => riskPoint 0 0 ++ riskPoint 3 20 ++ riskPoint 20 100
    | 6 => riskPoint 0 0 ++ riskPoint 1 40 ++ riskPoint 5 160
    | _ => []
  else []

end Sys2Proof.Machine
end

