-- ==== Sys2Proof/Machine/Gf.lean ====
section
/-!
DEFINITION. The field GF(2^8), the code of a coding set and its decode matrices (03 R79-R90, 04 R110-R113).
-/

namespace Sys2Proof.Machine

open Sys2Proof

/-- The loop of 03's `gf_mul`: `n` more bits of the second factor. -/
def gfLoop : Nat → Byte → Byte → Byte → Byte
  | 0, _, _, p => p
  | n + 1, a, b, p =>
    gfLoop n (if a.msb then (a <<< 1) ^^^ 0x1d else a <<< 1) (b >>> 1) (if b.getLsbD 0 then p ^^^ a else p)

/-- Multiplication modulo x^8 + x^4 + x^3 + x^2 + 1, 0x11D (03 R79). -/
def gfMul (a b : Byte) : Byte := gfLoop 8 a b 0

def gfPow (a : Byte) : Nat → Byte
  | 0 => 1
  | n + 1 => gfMul a (gfPow a n)

/-- The inverse of a non-zero element, a^254 (03 R79). -/
def gfInv (a : Byte) : Byte :=
  let a2 := gfMul a a
  let a4 := gfMul a2 a2
  let a8 := gfMul a4 a4
  let a16 := gfMul a8 a8
  let a32 := gfMul a16 a16
  let a64 := gfMul a32 a32
  let a128 := gfMul a64 a64
  gfMul a2 (gfMul a4 (gfMul a8 (gfMul a16 (gfMul a32 (gfMul a64 a128)))))

/-- A geometry k + k/g + m (03 R84). -/
structure Geo where
  k : Nat
  g : Nat
  m : Nat
deriving DecidableEq, Repr

/-- The geometry of the stripe-map header's defaults, in force while no job is armed (04 R111). -/
def Geo.default : Geo := { k := 16, g := 8, m := 2 }

def Geo.l (o : Geo) : Nat := o.k / o.g
def Geo.n (o : Geo) : Nat := o.k + o.l + o.m

/-- The limits of 03 R84, all but the BT-9E's. -/
def Geo.ok (o : Geo) (n : Nat) : Bool :=
  2 ≤ o.k && o.k ≤ 24 && [2, 3, 4, 6, 8, 12].contains o.g && o.k % o.g == 0 && o.m ≤ 4 && n == o.n

def Geo.isData (o : Geo) (c : Nat) : Bool := c < o.k
def Geo.isLocal (o : Geo) (c : Nat) : Bool := o.k ≤ c && c < o.k + o.l
def Geo.isGlobal (o : Geo) (c : Nat) : Bool := o.k + o.l ≤ c && c < o.n

/-- The local group a data column or a local parity belongs to. -/
def Geo.groupOf (o : Geo) (c : Nat) : Nat := if c < o.k then c / o.g else c - o.k

/-- The coefficient of global parity `p` on data column `j` (03 R82). -/
def coeff (p j : Nat) : Byte := gfInv (BitVec.ofNat 8 p ^^^ BitVec.ofNat 8 (0x10 + j))

/-- The coefficient of column `c` on data column `j`: 1 on itself for data (03 R81, R82). -/
def Geo.at (o : Geo) (c j : Nat) : Byte :=
  if c < o.k then (if c == j then 1 else 0)
  else if c < o.k + o.l then (if j < o.k && j / o.g == c - o.k then 1 else 0)
  else if c < o.n && j < o.k then coeff (c - o.k - o.l) j
  else 0

/-- The slot that holds column `c` of row `r` (03 R90). -/
def Geo.slotOf (o : Geo) (r c : Nat) : Nat := (r + c) % o.n

/-- The column that slot `s` holds in row `r` (03 R90). -/
def Geo.columnOf (o : Geo) (r s : Nat) : Nat := (s + o.n - r % o.n) % o.n

/-- The local parity of a data column's group, and the m global parities: its parity columns (03 R81, R82). -/
def Geo.holders (o : Geo) (j : Nat) : List Nat :=
  (o.k + j / o.g) :: (List.range o.m).map (fun p => o.k + o.l + p)

/-- The data columns that a parity column covers. -/
def Geo.covered (o : Geo) (c : Nat) : List Nat :=
  if o.isLocal c then (List.range o.g).map (fun i => (c - o.k) * o.g + i) else List.range o.k

/-- The columns of an ERASED mask below n, ascending. -/
def erasedCols (o : Geo) (erased : Nat) : List Nat := (List.range o.n).filter (fun c => bit erased c)

/-- `v` reduced by a basis of (pivot, row) pairs, in the order they were found. -/
def gfReduce (basis : List (Nat × List Byte)) (v : List Byte) : List Byte :=
  basis.foldl (fun v pr => let c := v.getD pr.1 0
                           List.zipWith (fun x y => x ^^^ gfMul c y) v pr.2) v

/-- The index of the first non-zero entry, and the vector scaled to hold 1 there. -/
def gfPivot (v : List Byte) : Option (Nat × List Byte) :=
  match v.findIdx? (fun x => x != 0) with
  | none => none
  | some i => some (i, v.map (gfMul (gfInv (v.getD i 0))))

/-- Parity columns that raise the rank in the erased data columns, in ascending order, until it is full (04 R112). -/
def pickLoop (o : Geo) (lost : List Nat) : List Nat → List (Nat × List Byte) → List Nat → Option (List Nat)
  | [], basis, acc => if basis.length == lost.length then some acc.reverse else none
  | c :: cs, basis, acc =>
    if basis.length == lost.length then some acc.reverse
    else match gfPivot (gfReduce basis (lost.map (o.at c))) with
      | none => pickLoop o lost cs basis acc
      | some pr => pickLoop o lost cs (basis ++ [pr]) (c :: acc)

/-- Whether an ERASED mask is decoded locally (04 R112). -/
def isLocalMask (o : Geo) (erased : List Nat) : Bool :=
  erased.all (fun c => c < o.k + o.l) &&
  (List.range o.l).all (fun i => (erased.filter (fun c => o.groupOf c == i)).length ≤ 1)

/-- The survivor list of an ERASED mask (04 R112); none where the rank cannot be reached (R114). -/
def survivors (o : Geo) (erasedMask : Nat) : Option (List Nat) :=
  let erased := erasedCols o erasedMask
  if isLocalMask o erased then
    some ((List.range (o.k + o.l)).filter (fun c =>
      !erased.contains c && erased.any (fun e => o.groupOf e == o.groupOf c)))
  else
    let lost := erased.filter o.isData
    let data := (List.range o.k).filter (fun c => !erased.contains c)
    let parities := (List.range o.n).filter (fun c => o.k ≤ c && !erased.contains c)
    (pickLoop o lost parities [] []).map (fun ps => data ++ ps)

/-- One column of Gauss-Jordan elimination: rows already reduced, rows to do. -/
def gaussLoop : Nat → Nat → List (List Byte) → List (List Byte) → Option (List (List Byte))
  | 0, _, done, _ => some done
  | n + 1, j, done, todo =>
    match todo.findIdx? (fun r => r.getD j 0 != 0) with
    | none => none
    | some i =>
      let r := todo.getD i []
      let p := r.map (gfMul (gfInv (r.getD j 0)))
      let clear := fun q : List Byte => let c := q.getD j 0
                                        List.zipWith (fun x y => x ^^^ gfMul c y) q p
      gaussLoop n (j + 1) (done.map clear ++ [p]) ((todo.eraseIdx i).map clear)

/-- The inverse of a square matrix over GF(2^8). -/
def gfInverse (rows : List (List Byte)) : Option (List (List Byte)) :=
  let n := rows.length
  let aug := rows.zipIdx.map (fun p => p.1 ++ (List.range n).map (fun j => if j == p.2 then (1 : Byte) else 0))
  (gaussLoop n 0 [] aug).map (fun rs => rs.map (fun r => r.drop n))

/-- Row `target` of the decode matrix D of an ERASED mask: the erased column over the survivor list (04 R111-R113). -/
def decodeRow (o : Geo) (erasedMask target : Nat) : Option (List Byte) :=
  (survivors o erasedMask).bind fun surv =>
    let erased := erasedCols o erasedMask
    if isLocalMask o erased then
      some (surv.map (fun c => if o.groupOf c == o.groupOf target then (1 : Byte) else 0))
    else
      let lost := erased.filter o.isData
      let ps := surv.filter (fun c => o.k ≤ c)
      (gfInverse (ps.map (fun p => lost.map (o.at p)))).map fun inv =>
        let dataRow := fun (d : Nat) =>
          match lost.findIdx? (· == d) with
          | none => surv.map (fun c => if c == d then (1 : Byte) else 0)
          | some a => surv.map (fun c =>
              if c < o.k then
                (ps.zipIdx.map (fun q => gfMul ((inv.getD a []).getD q.2 0) (o.at q.1 c))).foldl (· ^^^ ·) 0
              else (inv.getD a []).getD ((ps.findIdx? (· == c)).getD 0) 0)
        if target < o.k then dataRow target
        else (List.range o.k).foldl (fun acc j =>
          let q := o.at target j
          List.zipWith (fun x y => x ^^^ gfMul q y) acc (dataRow j)) (surv.map (fun _ => (0 : Byte)))

/-- A byte run scaled by a coefficient (03 R80). -/
def gfScale (c : Byte) (bs : List Byte) : List Byte :=
  if c == 0 then bs.map (fun _ => 0) else if c == 1 then bs else bs.map (gfMul c)

end Sys2Proof.Machine
end

