-- ==== Sys2Proof/Machine/State.lean ====
section
/-!
DEFINITION. The state of one Chezetin engine group: twelve engine positions and the group around them, as plain data,
and the state right after reset. INVENTORY.md's "State" lists every piece with its rule.
-/

namespace Sys2Proof.Machine

open Sys2Proof

/-- The block never stops by itself: every error the spec describes is an effect (a status, a response code, an event
record, an engine fault). No meaning raises a fault. -/
inductive Fault where
deriving DecidableEq, Repr

/-- Why a command has no meaning. -/
inductive Refusal where
  /-- Raised by `exec` alone, for a row of the table that has no meaning yet; safe: nothing is claimed of it. -/
  | notModelled (mnemonic : String)
deriving DecidableEq, Repr

/-- Byte storage: address and byte, addresses strictly rising, no entry holding 0, which is what an unlisted address
reads as (notes/assumptions/2.md). -/
abbrev Memory := List Host.Cell

/-- A dictionary value's key: index, sub-index, element (0 for a scalar) (13 R356, R360). -/
abbrev RegKey := Nat × Nat × Nat

/-- Written dictionary words; an entry not listed holds its default. -/
abbrev RegFile := AList RegKey Nat

/-- Written BLOB values by index and sub-index. -/
abbrev BlobFile := AList (Nat × Nat) (List Byte)

/-- What the controller last answered for a granule (01 R18, R19); a granule not listed is clean. -/
inductive Health where
  | corrected | uncorrectable | poisoned
deriving DecidableEq, Repr

/-- OP of a memory-side request (01 R17); 0b11 is reserved. -/
inductive MemOp where
  | read | write | testRead
deriving DecidableEq, Repr

/-- An outstanding memory-side request (01 R17): its word, a write's data beat, BYTE_EN and POISON, and the operation it serves. -/
structure MemReq where
  op      : MemOp
  cls     : Nat
  tag     : Nat
  granule : Nat
  byteEn  : BitVec 64
  data    : List Byte
  poison  : Bool
  owner   : Option Nat
deriving DecidableEq, Repr

def MemReq.isWrite (r : MemReq) : Bool := r.op == .write

/-- One arrival counter (01 R40-R42). -/
structure Arrival where
  value : BitVec 32
  error : Bool
deriving DecidableEq, Repr

/-- An update published on the counter port (01 R40). -/
structure CounterUpdate where
  engine : Nat
  index  : Nat
  value  : BitVec 32
  error  : Bool
deriving DecidableEq, Repr

/-- An event record (01 R44). -/
structure EventRec where
  time     : BitVec 64
  step     : Nat
  code     : Nat
  engine   : Nat
  facet    : Nat
  severity : Nat
  stream   : Nat
  status   : Nat
  tag      : Nat
  args     : Nat
deriving DecidableEq, Repr

/-- A walker descriptor as read at dispatch (04 R122): per dimension count, stride, offset and dilation. -/
structure Walk where
  base  : Nat
  elog  : Nat
  dims  : List (Nat × Int × Nat × Nat)
deriving DecidableEq, Repr

/-- An input column's binding (04 R115, R116; 12 R345). -/
inductive InBind where
  | zero
  | mem (w : Walk)
  | stage (queue : Nat)
  | own (window : Nat)
  | gathered (column : Nat)
deriving DecidableEq, Repr

/-- An output row's binding (04 R115, R116). -/
inductive OutBind where
  | discard
  | mem (w : Walk)
  | xormem (w : Walk)
  | stage (queue : Nat)
  | fabric (column window kind : Nat)
  | compare (w : Walk)
  | delta (window : Nat)
deriving DecidableEq, Repr

/-- A coefficient set, decoded (04 R110). -/
structure CoeffSet where
  kind     : Nat
  outFirst : Nat
  erased   : Nat
deriving DecidableEq, Repr

/-- A pass over pane-rows (04 R108, R109); `restarts` counts parity mismatches (04 R107), `lent` the segments of the pane-row that a lent
pass has streamed within its crossbar budget (04 R131). -/
structure PassWork where
  coeff    : CoeffSet
  ownCol   : Nat
  ins      : List InBind
  outs     : List OutBind
  window   : Nat
  first    : Nat
  rowStep  : Nat
  panes    : Nat
  done     : Nat
  restarts : Nat
  lent     : Nat
deriving DecidableEq, Repr

/-- A pane that a lane, SEAL or a tier move hands to the update path: where it lies and its new bytes. -/
structure PaneOut where
  window  : Nat
  row     : Nat
  content : List Byte
deriving DecidableEq, Repr

/-- Progress of a SWEEP or APPLYPEND over elements `first` to `last` of its object (06 R176-R178, 07 R191, R435). `desc` is the
object descriptor as read at dispatch, `ready`
holds the finished panes of the sweep block in progress; `started` says that the bay update has begun, `parcel` that the
object is deferred and to which position, `ringFull` that it waits under 08 R237, `repaired` that a parcel's rows have been
checked once under 11 R317, `tail` that the last write of the operation (header or residency word) has been started, `fullNoted` and
`warned` that PEND_RING_FULL and PEND_DEADLINE_NEAR have been raised. -/
structure SweepWork where
  desc      : List Byte
  step      : Nat
  first     : Nat
  next      : Nat
  last      : Nat
  started   : Bool
  ready     : List PaneOut
  pend      : Bool
  parcel    : Option Nat
  ringFull  : Bool
  repaired  : Bool
  nonfinite : Bool
  tail      : Bool
  fullNoted : Bool
  warned    : Bool
deriving DecidableEq, Repr

/-- Where a MIGRATE or PREFETCH stands (08 R228, R229). -/
inductive MovePhase where
  | waitTurn | wordOut | readHome | sendPane | writeLedger | wordIn | failed
deriving DecidableEq, Repr

/-- Progress of MIGRATE (`up` clear) or PREFETCH (`up` set). -/
structure MoveWork where
  slot   : Nat
  up     : Bool
  index  : Nat
  phase  : MovePhase
deriving DecidableEq, Repr

/-- Progress of SILVER RUN (10 R287, R289): item 0 clears the manifest, items 1 up are step 2, the last writes it. -/
structure SilverWork where
  gen  : Nat
deriving DecidableEq, Repr

/-- Progress of REBUILD or VERIFY over the rows of a window (12 R345, R346): `done` rows have been installed, verified or
skipped, `erased` are the columns treated as lost, `out` the walk of a drill copy, `restarts` and `lent` as in a pass. -/
structure RowsWork where
  opcode   : Nat
  window   : Nat
  first    : Nat
  rowStep  : Nat
  panes    : Nat
  done     : Nat
  erased   : Nat
  out      : Option Walk
  drill    : Bool
  check    : Bool
  reencode : Bool
  restarts : Nat
  lent     : Nat
deriving DecidableEq, Repr

/-- What an operation in flight still has to do (12 R336, R337). -/
inductive Work where
  | ended
  | fence (waits : List Nat)
  | fill (cycles : Nat)
  | pass (p : PassWork)
  | lanes (w : SweepWork)
  | rows (r : RowsWork)
  | seal (object step : Nat) (todo : List PaneOut) (outcome : Nat)
  | closing (group expected : Nat)
  | barrier (step mode : Nat) (ready : Bool) (since : BitVec 64)
  | aperture (gen step : Nat) (ready : Bool) (fail : Nat) (since : BitVec 64)
  | move (m : MoveWork)
  | silver (w : SilverWork)
  | mirror (entry step : Nat) (todo : List Nat)
  | compare (entry step : Nat) (todo : List Nat) (begun : Bool)
  | restore (gen slot : Nat) (toSend : Nat)
  | copy (src dst : Walk) (panes : Nat) (add : Bool) (done : Nat)
  | digest (src dst : Walk) (count : Nat) (tree rootOnly : Bool) (digests : List (List Byte)) (lent : Nat)
  | abort (step : Nat)
deriving DecidableEq, Repr

/-- An operation in flight (01 R39, 12 R336-R340). `causes` are the statuses it has met; `facet` the engine and facet
that run it; `total` is max(U, 1), `info` what its record tells of a mismatch (12 R347), `autofill` whether auto-fill was on when it was
dispatched (04 R126, R135). -/
structure Op where
  id       : Nat
  ins      : RawInstr
  facet    : Option (Nat × Nat)
  units    : Nat
  total    : Nat
  causes   : List Nat
  raised   : Bool
  info     : Nat
  autofill : Bool
  work     : Work
deriving DecidableEq, Repr

/-- A queued operation of a facet: the home engine and the operation (04 R127, R130). -/
structure OpRef where
  home : Nat
  op   : Nat
deriving DecidableEq, Repr

/-- One facet (04). `cells` holds the written coefficient registers, cell 24*o + i, each 18 bits (R106); `filled` is the
operation whose coefficients they were last filled with (R109), `restarts` counts the parity mismatches of a fold facet's standing pass
(R107), `lfsr` is how many cycles its LFSR has run under FILL (R125; its bytes are a free value that nothing reads). -/
structure Facet where
  requested  : Bool
  powered    : Bool
  isolated   : Bool
  inReset    : Bool
  absorb     : Bool
  rstDone    : Bool
  queue      : List OpRef
  active     : Option OpRef
  laneQueue  : List Nat
  laneActive : Option Nat
  cells      : AList Nat (BitVec 18)
  activity   : Nat
  current    : Nat
  lastAct    : Nat
  autofill   : Bool
  capPercent : Nat
  filled     : Option OpRef
  restarts   : Nat
  lfsr       : Nat
deriving DecidableEq, Repr

/-- A facet right after reset: unpowered, registers at their default 0 (04 R106). -/
def Facet.init : Facet :=
  { requested := false, powered := false, isolated := false, inReset := false, absorb := false, rstDone := false, queue := [],
    active := none, laneQueue := [], laneActive := none, cells := [], activity := 0, current := 0, lastAct := 0, autofill := false,
    capPercent := 100, filled := none, restarts := 0, lfsr := 0 }

/-- A member or spare entry of a stripe map (03 R93). -/
structure Member where
  chip  : Nat
  tray  : Nat
  state : Nat
deriving DecidableEq, Repr

/-- A window record of a stripe map (03 R93). -/
structure Window where
  engine   : Nat
  number   : Nat
  cls      : Nat
  base     : Nat
  length   : Nat
  ledger   : Nat
  mask     : Nat
  presence : Nat
deriving DecidableEq, Repr

/-- A coding set of a stripe map (03 R87, R93). -/
structure CodingSet where
  id      : Nat
  members : List Member
deriving DecidableEq, Repr

/-- A stripe map, parsed (03 R93). -/
structure StripeMap where
  jobId   : BitVec 16
  gen     : BitVec 16
  k       : Nat
  g       : Nat
  m       : Nat
  n       : Nat
  sets    : List CodingSet
  spares  : List Member
  windows : List Window
deriving DecidableEq, Repr

/-- A job blob's header and map (09 R272). -/
structure JobBlob where
  jobGen       : Nat
  rev          : Nat
  initialStep  : Nat
  seed         : BitVec 64
  childTimeout : Nat
  digest       : List Byte
  program      : List Byte
  map          : StripeMap
  mapBytes     : List Byte
deriving DecidableEq, Repr

/-- A group of staged dictionary entries (13 R365). -/
inductive GroupMode where
  | clean | dirty | waiting | rejected
deriving DecidableEq, Repr

/-- The status word of one staged group (13 R365). -/
structure GroupStat where
  mode      : GroupMode
  applied   : Nat
  reason    : Nat
  check     : Nat
  abandoned : Bool
deriving DecidableEq, Repr

/-- A group's status at reset: CLEAN (13 R365, R374). -/
def GroupStat.init : GroupStat := { mode := .clean, applied := 0, reason := 0, check := 0, abandoned := false }

/-- A BLOB in assembly (13 R359). -/
structure BlobAsm where
  index : Nat
  sub   : Nat
  next  : Nat
  bytes : List Byte
deriving DecidableEq, Repr

/-- A group slot's state (05 R145). -/
inductive SlotState where
  | free | opened | closed
deriving DecidableEq, Repr

/-- One accumulation slot (05, "Group states") with the descriptor it was opened with (R140), and how many of its tiles carry
NONFINITE and OVERFLOW (R158). -/
structure AccSlot where
  state      : SlotState
  step       : Nat
  mapGen     : BitVec 16
  openSeq    : Nat
  absorbed   : Nat
  lastStep   : Nat
  openedGens : List (Nat × BitVec 16)
  incomplete : Bool
  damaged    : Bool
  nonfinite  : Bool
  overflow   : Bool
  empty      : Bool
  badTiles   : Nat
  overTiles  : Nat
  accBase    : Nat
  tailBase   : Nat
  elements   : Nat
  wide       : Bool
  anchorTab  : Bool
  anchor     : Nat
  anchorBase : Nat
  resident   : Bool
  countEn    : Bool
  counter    : Nat
  sealFormat : Nat
deriving DecidableEq, Repr

/-- A FREE slot that has never opened. -/
def AccSlot.init : AccSlot :=
  { state := .free, step := 0, mapGen := 0, openSeq := 0, absorbed := 0, lastStep := 0, openedGens := [],
    incomplete := false, damaged := false, nonfinite := false, overflow := false, empty := false, badTiles := 0, overTiles := 0, accBase := 0,
    tailBase := 0, elements := 0, wide := false, anchorTab := false, anchor := 0, anchorBase := 0, resident := false,
    countEn := false, counter := 0, sealFormat := 0 }

/-- A norm register (06 R162, R166). -/
structure NormReg where
  step      : Nat
  sum       : Nat
  nonfinite : Bool
  overflow  : Bool
  alert     : Bool
deriving DecidableEq, Repr

/-- A seal-table entry (06 R163): outcome 0 SEALED, 1 NONFINITE, 2 EMPTY. -/
structure SealEntry where
  object  : Nat
  step    : Nat
  outcome : Nat
deriving DecidableEq, Repr

/-- How a written pane's ledger entry is stamped (07 R191, R198, R199, R215, R216, 08 R228, R229). -/
inductive Stamp where
  | recovered (step : Nat)
  | sweep (step : Nat)
  | coded
  | sealed (step : Nat)
  | moved (step : Nat) (pending : Bool)
  | reconciled (step : Nat)
deriving DecidableEq, Repr

/-- Who waits for a pane, a request or an install. -/
inductive Owner where
  | op (id : Nat)
  | job (id : Nat)
  | write (id : Nat)
  | install (id : Nat)
  | fetch (id : Nat)
  | repair (window row : Nat)
  | standing
deriving DecidableEq, Repr

/-- A pane on its way through R191 or R199: its deltas are sent and it is written and stamped once every awaited holder
has acknowledged. `granules` are those it writes, `slot` says it holds a pane slot of 06 R178, `unit` that its stamp is a
unit of its operation (12 R340). -/
structure PaneJob where
  id      : Nat
  owner   : Owner
  vc      : Nat
  window  : Nat
  row     : Nat
  step    : Nat
  content : List Byte
  granules : List Nat
  stamp   : Stamp
  slot    : Bool
  unit    : Bool
  refused : List Nat
deriving DecidableEq, Repr

/-- Why an unanswered request is not simply waiting: it has no tag yet (01 R36), or a NAK 0x12 holds it (09 R253). -/
inductive ReqHold where
  | none
  | unsent
  | retry
  | newGen (gen : BitVec 16)
deriving DecidableEq, Repr

/-- An unanswered request chunk in the replay buffer (01 R31): the holders still awaited, by ACKED bit (06 R181) and
chip, the chips it is withheld from (09 R246), those that have answered it with NAK 0x70 since it last went to them (01 R36), and who
waits for it. `column` is that of a multicast flow, `dest` the holders that it was first meant for (09 R253). -/
structure Request where
  tag      : Nat
  chunk    : Chunk
  dest     : List (Nat × Nat)
  awaited  : List (Nat × Nat)
  acked    : List Nat
  withheld : List Nat
  stub     : List Nat
  column   : Option Nat
  owner    : Owner
  hold     : ReqHold
deriving DecidableEq, Repr

/-- A chunk on its way out, with its destination chips (01 R28, 06 R181). -/
structure Sent where
  dest  : List Nat
  chunk : Chunk
deriving DecidableEq, Repr

/-- The flow of a chunk: peer chip and engine, VC and, for DELTA, GPARITY and COLD_PARITY, the column (01 R30, 06 R181). -/
structure FlowKey where
  chip   : Nat
  engine : Nat
  vc     : Nat
  column : Option Nat
deriving DecidableEq, Repr

/-- Receiver state of one flow in one epoch (01 R32, 09 R251). -/
structure RxFlow where
  key      : FlowKey
  gen      : BitVec 16
  expected : BitVec 16
  gapSent  : Bool
  answers  : AList (BitVec 16) Chunk
deriving DecidableEq, Repr

/-- A destination's resend record, whether the engine has stopped sending to it, and whether it has reported it (01 R33, 09 R246). -/
structure Dest where
  chip     : Nat
  engine   : Nat
  vc       : Nat
  timeouts : Nat
  stopped  : Bool
  reported : Bool
deriving DecidableEq, Repr

/-- Why a received request waits at the engine in its flow's order. -/
inductive HoldWhy where
  | gen (gen : BitVec 16)
  | slotOpen
  | commit
  | gather
  | behind
  | busy
  | install
deriving DecidableEq, Repr

/-- A received request that waits, with the flow epoch it arrived in. -/
structure Held where
  chunk : Chunk
  why   : HoldWhy
deriving DecidableEq, Repr

/-- A gather slot in use (07 R194): the chunks of one pane of one flow and the 256 B segments they have filled; the bytes
lie in the stack. -/
structure Gather where
  vc       : Nat
  srcSlot  : Nat
  column   : Nat
  window   : Nat
  row      : Nat
  step     : Nat
  segments : List Nat
  chunks   : List Chunk
  total    : Option Nat
deriving DecidableEq, Repr

/-- A record of a fold from a STEP-0 delta (07 R198). -/
structure FoldRecord where
  window  : Nat
  row     : Nat
  srcSlot : Nat
deriving DecidableEq, Repr

/-- A freeze of a row for an origin (09 R263); `own` marks the engine's own reads and arbitrations. -/
structure Freeze where
  window : Nat
  row    : Nat
  slot   : Nat
  column : Nat
deriving DecidableEq, Repr

/-- A part this engine plays as a source in somebody's chain (09 R264), or a pane handed to it; `marks` are the columns that the chunks of
a re-encoded parity pane say are stamped (07 R215). -/
structure ChainPart where
  window   : Nat
  row      : Nat
  column   : Nat
  origin   : Nat
  hop      : Nat
  coeff    : Byte
  nextSlot : Nat
  segments : AList Nat (List Byte)
  marks    : Nat
  frozen   : Bool
  gen      : BitVec 16
deriving DecidableEq, Repr

/-- What an install is for (09 R262, R266; 11 R315, R316, R318, R320; 14 R389). -/
inductive Purpose where
  | install (background : Bool)
  | erasure (granule : Nat)
  | opRow (op : Nat)
  | drillOp (op row : Nat)
  | verify (op : Option Nat) (reencode : Bool)
  | drill
  | decode (op row : Nat)
  | arbitrate (entry chip : Nat) (digest : Option (List Byte)) (given : Bool)
  | rowCheck (op : Option Nat) (d : Option (List Byte)) (reencode : Bool)
  | reconcile (op step : Nat)
  | coldRepair
deriving DecidableEq, Repr

/-- A source of an install: its column and slot, coefficient, whether it has answered, was absent, its STEP_TAG, the bits of its mask
word at that step (07 R214), and the data columns that its records of 07 R198 name in the row (07 R218). -/
structure Source where
  column : Nat
  slot   : Nat
  coeff  : Byte
  frozen : Bool
  absent : Bool
  tag    : Nat
  mask   : Nat
  named  : Nat
  data   : AList Nat (List Byte)
deriving DecidableEq, Repr

/-- Where such an operation stands: it waits to start, gathers its inputs, waits for the final panes of a row it reconciles (07
R216), has repairs unacknowledged, or has sent its releases. -/
inductive Phase where
  | waiting | reading | handing | repairing | releasing
deriving DecidableEq, Repr

/-- An operation in which the engine takes freezes as origin (09 R264-R266). `gather` is GATHER mode, `column` the column
being installed, `extra` the columns to be treated as lost beside it, `asked` that a mirror
holder has been asked first (09 R267), `recorded` that the holders have been asked for their records and `torn` the lost columns that
these name (07 R218); `finals` are the final panes of a row that is reconciled, with their STEP_TAG, by column (07 R215), `acks` the
requests that are acknowledged once its holders are re-encoded (09 R269). -/
structure Install where
  id      : Nat
  purpose : Purpose
  window  : Nat
  row     : Nat
  column  : Nat
  extra   : Nat
  gather  : Bool
  phase   : Phase
  sources : List Source
  sum     : AList Nat (List Byte)
  asked   : Bool
  recorded : Bool
  torn    : Nat
  finals  : AList Nat (Nat × List Byte)
  acks    : List Chunk
deriving DecidableEq, Repr

/-- A row of a recovery sweep whose pane is not final yet (07 R213-R216): the pane is awaited from the spare that reconciles the
row (`awaits`), or `old` is its decoded content, from which the sweep recomputes it. `multi` says that the row has lost several data
columns, so that its holders are re-encoded; `back` is the slot that the final pane goes back to, `behind` counts the holders that
the difference repairs, `absent` says that the row is absent everywhere, `done` that the pane is final. -/
structure Recon where
  window : Nat
  row    : Nat
  awaits : Bool
  multi  : Bool
  back   : Option Nat
  old    : List Byte
  behind : Nat
  absent : Bool
  done   : Bool
deriving DecidableEq, Repr

/-- A pane being fetched from an owner or a mirror holder (06 R185-R187, 09 R267): the chip asked, the entry and pane, the
responses so far, the STEP_TAGs they carried, whether it is the second try, and whether a request was refused. -/
structure Fetch where
  id       : Nat
  owner    : Owner
  chip     : Nat
  entry    : Nat
  index    : Nat
  step     : Nat
  mirror   : Bool
  segments : AList Nat (List Byte)
  digest   : Option (List Byte)
  tags     : List Nat
  again    : Bool
  refused  : Option Nat
  done     : Bool
deriving DecidableEq, Repr

/-- A write of one or more granules of a pane, with one BYTE_EN a granule: in the coded-write path once `accepted`, else held at the filter
(01 R22, R23, R59). -/
structure CodedWrite where
  id      : Nat
  granule : Nat
  byteEn  : List (BitVec 64)
  data    : List Byte
  window  : Nat
  row     : Nat
  job     : Option Nat
  status  : Nat
  accepted : Bool
deriving DecidableEq, Repr

/-- A completion returned to an agent, or a read served for one (01 R22-R26). -/
structure AgentDone where
  granule : Nat
  write   : Bool
  status  : Nat
  data    : List Byte
deriving DecidableEq, Repr

/-- The answer to a presence lookup (01 R25). -/
inductive Presence where
  | present | zero | engine
deriving DecidableEq, Repr

/-- A degraded range (09 R260). -/
structure DegradedRange where
  window : Nat
  first  : Nat
  last   : Nat
  local_ : Bool
deriving DecidableEq, Repr

/-- A pane copied by an aperture (10 R284). -/
structure StagedPane where
  window  : Nat
  row     : Nat
  ledger  : Nat
  content : List Byte
deriving DecidableEq, Repr

/-- Why a row of a staged window carries no bytes (10 R293). -/
inductive RowState where
  | absent | notHeld
deriving DecidableEq, Repr

/-- A pane that SILVER, or a silver-ahead, has written into the archive: its ledger entry and digest (10 R288, R293). -/
structure SilverPane where
  window : Nat
  row    : Nat
  ledger : Nat
  digest : List Byte
deriving DecidableEq, Repr

/-- A staged generation (10 R284-R291). `held` are the rows of each window that the archive carries, fixed at the release, `panes` the
copied (or set aside) panes, `silver` those written into the archive that may change afterwards, `written` the number of archive
writes of 10 R287, step 2, completed, `copying` set until the copy ends. `map`, `setId` and `slot` are those in force at the
release. -/
structure Staged where
  gen     : Nat
  step    : Nat
  map     : StripeMap
  setId   : Nat
  slot    : Nat
  mapGen  : BitVec 16
  jobId   : BitVec 16
  jobGen  : Nat
  time    : BitVec 64
  shadow  : Bool
  panes   : List StagedPane
  notHeld : List (Nat × Nat)
  held    : AList Nat (List Nat)
  silver  : List SilverPane
  side    : List Byte
  cleared : Bool
  written : Nat
  copying : Bool
  running : Bool
deriving DecidableEq, Repr

/-- A tap's running sum and count (11 R309). -/
structure TapSum where
  sum   : Nat
  count : Nat
deriving DecidableEq, Repr

/-- The errors an SRAM word carries: structure, codeword index, error byte per codeword position (11 R322, R326). -/
structure SramFault where
  struct_ : Nat
  word    : Nat
  errors  : AList Nat Byte
deriving DecidableEq, Repr

/-- Drills (14 R389, R390): whether one runs, those ended, skipped or aborted so far, rows drilled and mismatches of the one that
runs, *DRILL_POSITION*, where the running drill stands, and *DRILL_LAST*. -/
structure Drill where
  running    : Bool
  seq        : Nat
  rows       : Nat
  mismatches : Nat
  pos        : Nat × Nat
  at_        : Nat × Nat
  last       : Nat
deriving DecidableEq, Repr

/-- A reset in progress at an engine (15 R400-R407): its mode, whether *RST_DONE* has been reported, whether it is part of a
group reset, whether a reset-controller signal asked for it, and whether an engine fault did. -/
structure ResetRun where
  absorb : Bool
  done   : Bool
  group  : Bool
  signal : Bool
  fault  : Bool
deriving DecidableEq, Repr

/-- *POSITION_STATE* (13 R373). -/
inductive Position where
  | present | fusedOff | unpowered | inReset | isolated
deriving DecidableEq, Repr

/-- The job an engine is armed in (09 R272, R276). -/
structure Job where
  jobId    : BitVec 16
  jobGen   : Nat
  rev      : Nat
  seed     : BitVec 64
  child    : Nat
  map      : StripeMap
  mapBytes : List Byte
deriving DecidableEq, Repr

/-- Power, reset and bring-up of one position (01 R52-R60, 15). `form1` says that the bring-up under way is that of an engine
reset, `warm` that it returns into a running job; `kat` is set once stage 5 has passed; `fault` and
`facetFaults` are an engine fault's cause and facet faults found inside a command and handled at its end (15 R407, 04 R132). -/
structure Bring where
  position   : Position
  lastStage  : Nat
  report     : AList Nat (BitVec 32)
  form1      : Bool
  warm       : Bool
  islandReq  : Bool
  islandGood : Bool
  isoEn      : Bool
  clkEn      : Bool
  rst        : Option ResetRun
  lastReset  : BitVec 64
  kat        : Bool
  peers      : List Nat
  unreach    : Nat
  fault      : Option Nat
  facetFaults : List Nat
deriving DecidableEq, Repr

/-- The update configuration that governs the steps up to `limit` (06 R188). -/
structure OldUpdate where
  limit : Nat
  regs  : RegFile
  blobs : BlobFile
deriving DecidableEq, Repr

/-- The engine's side of the dictionary (13): written values, shadows, staged groups, the BLOB in assembly, the map
staged by MAP_STAGE, counters (14 R378) and the latched image (14 R382). -/
structure Dict where
  regs        : RegFile
  shadow      : RegFile
  blobs       : BlobFile
  shadowBlobs : BlobFile
  groups      : AList Nat GroupStat
  asm         : Option BlobAsm
  stagedMap   : Option (StripeMap × List Byte)
  oldUpdate   : Option OldUpdate
  digest      : List Byte
  counters    : RegFile
  latchImage  : List Byte
deriving DecidableEq, Repr

/-- Instruction streams, operations, facets and arrival counters (01 R37-R42, 04, 12). `absentSeen` are the (stream,
step) pairs for which the stub has raised its record (01 R58), `stages` the staging queues with a number for each pane (its word of SRAM, 11
R324), `lendBudget` the *XBAR_LEND_BUDGET* of the crossbar window (04 R135). -/
structure Issue where
  arrivals   : AList Nat Arrival
  counterOut : List CounterUpdate
  absentSeen : List (Nat × Nat)
  queues     : AList Nat (List RawInstr)
  ops        : List Op
  nextId     : Nat
  facets     : Vector Facet 8
  matrices   : List Nat
  stages     : AList Nat (List (Nat × List Byte))
  lendBudget : Nat
deriving DecidableEq, Repr

/-- The stack and what stands between it and the agents (01 R16-R26): contents, error answers, outstanding requests,
presence map, filter entries (window, first pane, panes), private entry, coded-write path, completions and answers; `repairs` are the
rows for which a repair request was sent, `spareRows` the controller's count of spare rows last received (01 R20). -/
structure Stack where
  hbm        : Memory
  health     : AList Nat Health
  memReqs    : List MemReq
  presence   : List (Nat × Nat)
  filter     : List (Nat × Nat × Nat)
  privateOn  : Bool
  writes     : List CodedWrite
  agentOut   : List AgentDone
  lookupOut  : List (Nat × Presence)
  reads      : List (Nat × Nat)
  repairs    : List Nat
  spareRows  : Nat
deriving DecidableEq, Repr

/-- A job's end: not asked for, waiting for its step boundary (13 R368), or for the coded writes of the path to be stamped (01 R21). -/
inductive JobEnd where
  | no | asked | due
deriving DecidableEq, Repr

/-- The job, the committed step, accumulation slots, norm registers, seal table and decisions (03, 05, 06, 07, 09). `ending`
is what a *JOB_END* waits for (13 R368), `abortFrom` are the steps whose abort scan awaits installs (07 R209). `accCache` holds the tiles of resident groups at their addresses of the accumulation region, `recBuf` the tile records in the
record buffer by their address in the record area (05 R153). -/
structure JobSt where
  job        : Option Job
  staged     : Option JobBlob
  ending     : JobEnd
  committed  : Nat
  memberSlot : Nat
  slots      : AList Nat AccSlot
  openSeq    : Nat
  accCache   : Memory
  recBuf     : AList Nat Nat
  norms      : List NormReg
  seals      : List SealEntry
  decided    : AList Nat Nat
  abortFrom  : List Nat
  lastDecision : Nat
deriving DecidableEq, Repr

/-- The fabric side (01 R27-R36, 07, 09): panes in the update path, replay buffer, flows, destinations, credits, chunks
waiting for credit, chunks sent, received requests that wait, gather slots, panes gathered whole, STEP-0 fold records. -/
structure Fabric where
  jobs       : List PaneJob
  requests   : List Request
  txFlows    : AList FlowKey (BitVec 16)
  rxFlows    : List RxFlow
  dests      : List Dest
  credits    : AList Nat Nat
  egress     : List Sent
  out        : List Sent
  held       : List Held
  gathers    : List Gather
  complete   : List Gather
  foldLog    : List FoldRecord
  mustCommit : Option (BitVec 16)
deriving DecidableEq, Repr

/-- Losses and rebuilds (09): freezes, chain parts, installs, fetches, degraded ranges, undecodable rows, mirror panes being
served (entry, index, requests answered), rows under reconciliation and enrolment. `swept` says that a step was being swept when the
spare enrolled (07 R212), `firstCommit` that a COMMIT has been released since. -/
structure Rebuild where
  freezes     : List Freeze
  parts       : List ChainPart
  installs    : List Install
  fetches     : List Fetch
  ranges      : AList Nat DegradedRange
  lostRows    : List (Nat × Nat)
  mirrorHold  : List (Nat × Nat × Nat)
  recons      : List Recon
  enrolled    : Bool
  swept       : Bool
  firstCommit : Bool
  sweptSince  : Bool
  doneRaised  : Bool
deriving DecidableEq, Repr

/-- The cold repair list (08 R233): window, row and column; `verifyAt` is the cold window and row at which the verification of a
list that overflowed stands. -/
structure TierSt where
  repairs    : List (Nat × Nat × Nat)
  repairFull : Bool
  verifyAt   : Nat × Nat
deriving DecidableEq, Repr

/-- Snapshots and restore (10). `manifests` are the manifests last read (10 R303), `since` the time at which the running
APERTURE was dispatched, `restoreGen` the generation of a completed RESTORE PREPARE; `workRun` says that a SWEEP, APPLYPEND or
COMMIT has run since arm, `topSweep` is the highest step of those sweeps. -/
structure SnapSt where
  snap       : Option Staged
  manifests  : AList Nat (List Byte)
  since      : BitVec 64
  restoreGen : Option Nat
  workRun    : Bool
  topSweep   : Nat
deriving DecidableEq, Repr

/-- The loupe (11) and the drills (14): taps, SRAM faults, retirements, flip-mask, corrected-error bucket, scrubber,
drill, non-determinism counts, erasure addresses seen since arm, outputs of test instruments. -/
structure Loupe where
  taps       : AList Nat TapSum
  faults     : List SramFault
  macroHits  : AList (Nat × Nat) Nat
  retired    : List (Nat × Nat)
  flipArmed  : Bool
  bucket     : Nat
  scrub      : Nat × Nat
  drill      : Drill
  nondetRel  : Nat
  nondetNon  : Nat
  nondetFlag : Bool
  erasures   : List Nat
  testOut    : List (List Byte)
deriving DecidableEq, Repr

/-- One engine position. INVENTORY.md names the rule of each field. -/
structure Engine where
  bring : Bring
  dict  : Dict
  iss   : Issue
  mem   : Stack
  job   : JobSt
  fab   : Fabric
  reb   : Rebuild
  tier  : TierSt
  snap  : SnapSt
  lou   : Loupe
deriving DecidableEq, Repr

/-- What a tier transfer is for (01 R47, R48). -/
inductive TierCont where
  | move (op : Nat)
  | silver (op : Nat)
  | part
  | ahead (gen window row : Nat) (entry : Bool)
  | born (window row : Nat)
  | restore (op : Nat)
  | foldRead (vc srcSlot column : Nat)
  | fold (vc srcSlot column : Nat)
  | source (c : Chunk)
  | own (install : Nat)
  | install (id : Nat)
  | repaired (window row : Nat) (chunk : Option Chunk)
  | wipe
  | loaded (window row tag : Nat) (pending : Bool) (owner : Option Nat) (chunk : Option Chunk)
deriving DecidableEq, Repr

/-- A tier transfer of an engine: a run of requests of 64 B each (01 R46), request `64 * id + p` being its part `p`. `addr` is its
first byte (tier offset), `bytes` what a write stores; `cls` and `layer` order it (08 R231), `after` is a transfer that must have
ended before it. `todo` are the parts not yet granted, `out` those outstanding, `lost` those that ended late and whose completion may
still arrive; `status` is the first that is not 0x00. -/
structure TierReq where
  id     : Nat
  engine : Nat
  addr   : Nat
  length : Nat
  bytes  : List Byte
  write  : Bool
  cls    : Nat
  layer  : Nat × Nat
  after  : Option Nat
  todo   : List Nat
  out    : List Nat
  lost   : List Nat
  status : Nat
  cont   : TierCont
deriving DecidableEq, Repr

/-- It has not ended. -/
def TierReq.live (t : TierReq) : Bool := !(t.todo.isEmpty && t.out.isEmpty)

/-- A counter latch (14 R380): kind 1 at time, 2 at step. -/
structure Latch where
  kind  : Nat
  at_   : Nat
  seq   : Nat
  late  : Bool
  state : Nat
deriving DecidableEq, Repr

/-- A spike detector (14 R383): FP32 mean and deviation, count. -/
structure Detector where
  mu  : BitVec 32
  nu  : BitVec 32
  c   : Nat
deriving DecidableEq, Repr

/-- The life-cycle state (16 R417). -/
inductive LifeCycle where
  | test | provisioned | operate | service | returned
deriving DecidableEq, Repr

/-- A fuse blow waiting for its read-back (16 R418). -/
inductive FuseBlow where
  | provisioned | field | returned | authReturned
deriving DecidableEq, Repr

/-- The answer to the last dictionary transaction (01 R43). -/
structure DictResp where
  code    : Nat
  data    : List Byte
  segment : Nat
deriving DecidableEq, Repr

/-- Life cycle and authorisation (16). `leaseEnd` and `lockEnd` are the times at which the service lease, of `lease` minutes, and a
lockout end. -/
structure LcSt where
  fuses      : BitVec 64
  lcFuses    : BitVec 64
  keyFuses   : List Byte
  siliconRev : BitVec 16
  chipId     : Nat
  state      : LifeCycle
  fusesOk    : Bool
  leaseEnd   : BitVec 64
  lease      : Nat
  authFails  : Nat
  lockout    : Bool
  lockEnd    : BitVec 64
  lastAuth   : Nat
  challenges : Nat
  challengeT : BitVec 64
  blowing    : Option FuseBlow
deriving DecidableEq, Repr

/-- The group's side of the dictionary (13 R357), the management controller's images (13 R371) and the response to the
last transaction (01 R43). -/
structure GDict where
  regs        : RegFile
  shadow      : RegFile
  blobs       : BlobFile
  shadowBlobs : BlobFile
  groups      : AList Nat GroupStat
  asm         : Option BlobAsm
  counters    : RegFile
  images      : AList Nat DictImage
  resp        : Option DictResp
deriving DecidableEq, Repr

/-- The event queue, its drops, the log ring and the records delivered (01 R44-R45, 14 R377). -/
structure Events where
  queue     : List EventRec
  dropped   : Nat
  log       : List EventRec
  delivered : List EventRec
  suspects  : AList Nat (BitVec 64)
deriving DecidableEq, Repr

/-- Latch, spike detectors and risk estimator (14). `stepFlags` are recorded steps with spike and non-finite flags, newest
first, `skipped` the steps decided SKIP, `erasures` the times of the installs of 11 R320. -/
structure Healths where
  latch      : Latch
  latchImage : List Byte
  detectors  : Vector Detector 2
  lastStep   : Nat
  stepFlags  : List (Nat × Bool × Bool)
  armedReq   : Bool
  lastReq    : Option (BitVec 64)
  apertured  : Bool
  above      : Bool
  staleLink  : Bool
  staleTherm : Bool
  riskView   : Nat
  erasures   : List (BitVec 64)
  skipped    : List Nat
deriving DecidableEq, Repr

/-- A reset of the group or the chip in progress (15 R400). -/
structure GroupReset where
  absorb : Bool
  done   : Bool
  signal : Bool
  chip   : Bool
deriving DecidableEq, Repr

/-- Barriers, tier port, crossbar, power and clocks, group reset. `readyOut` are the steps and modes for which the group has been
reported ready, `snapOut` the FAIL bits of reported apertures, `stepC` the committed step, `tierReqs` the tier transfers in the order
they were asked for, `tierTurn` the engine whose turn it is at the tier port. -/
structure Coord where
  readyOut    : List (Nat × Nat)
  snapOut     : List Bool
  stepC       : Nat
  tierReqs    : List TierReq
  tierNext    : Nat
  tierTurn    : Nat
  xbar        : AList (Nat × Bool) Nat
  powerEst    : BitVec 16
  powerCap    : Nat
  clocks      : List Nat
  groupRst    : Option GroupReset
deriving DecidableEq, Repr

/-- What the group holds beside its engines. -/
structure Group where
  lc     : LcSt
  dict   : GDict
  ev     : Events
  health : Healths
  coord  : Coord
deriving DecidableEq, Repr

/-- The state of the block. `pending` are the commands that wait, first in, first out. -/
structure State where
  pending   : List Instr
  time      : BitVec 64
  stepValue : BitVec 32
  stepValid : Bool
  engines   : Vector Engine 12
  group     : Group
  tier      : Memory
  tierBase  : Nat
  tierLimit : Nat
  freeCount : Nat
deriving DecidableEq, Repr

/-- The value of FUSE_WORD on a BT-9: 2 march passes, positions 0 to 11, facets 0 to 7, k limit 24, and the CHECK byte,
the XOR of the others (15 R397, R398; which variant the part is: notes/assumptions/5.md, DESIGN CHOICE). -/
def bt9Fuses : BitVec 64 := 0x00002fffff180037

/-- A position after reset: held in bring-up, nothing passed (01 R60). -/
def Bring.init : Bring :=
  { position := .inReset, lastStage := 0, report := [], form1 := false, warm := false, islandReq := false, islandGood := false,
    isoEn := true, clkEn := false, rst := none, lastReset := 0, kat := false, peers := [], unreach := 0,
    fault := none, facetFaults := [] }

/-- The dictionary at its defaults, every group CLEAN (13 R371, R374). -/
def Dict.init : Dict :=
  { regs := [], shadow := [], blobs := [], shadowBlobs := [], groups := [], asm := none, stagedMap := none,
    oldUpdate := none, digest := [], counters := [], latchImage := [] }

def Issue.init : Issue :=
  { arrivals := [], counterOut := [], absentSeen := [], queues := [], ops := [], nextId := 0,
    facets := Vector.replicate 8 Facet.init, matrices := [], stages := [], lendBudget := 25 }

def Stack.init : Stack :=
  { hbm := [], health := [], memReqs := [], presence := [], filter := [], privateOn := false,
    writes := [], agentOut := [], lookupOut := [], reads := [], repairs := [], spareRows := 0 }

def JobSt.init : JobSt :=
  { job := none, staged := none, ending := .no, committed := 0, memberSlot := 0xff, slots := [], openSeq := 1, accCache := [], recBuf := [], norms := [],
    seals := [], decided := [], abortFrom := [], lastDecision := 0 }

def Fabric.init : Fabric :=
  { jobs := [], requests := [], txFlows := [], rxFlows := [], dests := [], credits := [], egress := [],
    out := [], held := [], gathers := [], complete := [], foldLog := [], mustCommit := none }

def Rebuild.init : Rebuild :=
  { freezes := [], parts := [], installs := [], fetches := [], ranges := [], lostRows := [], mirrorHold := [], recons := [],
    enrolled := false, swept := false, firstCommit := false,
    sweptSince := false, doneRaised := false }

def TierSt.init : TierSt := { repairs := [], repairFull := false, verifyAt := (8, 0) }

def SnapSt.init : SnapSt := { snap := none, manifests := [], since := 0, restoreGen := none, workRun := false, topSweep := 0 }

def Loupe.init : Loupe :=
  { taps := [], faults := [], macroHits := [], retired := [], flipArmed := false,
    bucket := 0, scrub := (0, 0),
    drill := { running := false, seq := 0, rows := 0, mismatches := 0, pos := (0, 0), at_ := (0, 0), last := 0 },
    nondetRel := 0, nondetNon := 0, nondetFlag := false, erasures := [], testOut := [] }

/-- An engine position right after reset. -/
def Engine.init : Engine :=
  { bring := Bring.init, dict := Dict.init, iss := Issue.init, mem := Stack.init, job := JobSt.init,
    fab := Fabric.init, reb := Rebuild.init, tier := TierSt.init, snap := SnapSt.init, lou := Loupe.init }

def LcSt.init : LcSt :=
  { fuses := bt9Fuses, lcFuses := 0, keyFuses := zeros 32, siliconRev := 0, chipId := 0, state := .test,
    fusesOk := true, leaseEnd := 0, lease := 0, authFails := 0, lockout := false, lockEnd := 0, lastAuth := 0, challenges := 1,
    challengeT := 0, blowing := none }

def GDict.init : GDict :=
  { regs := [], shadow := [], blobs := [], shadowBlobs := [], groups := [], asm := none, counters := [], images := [],
    resp := none }

def Events.init : Events := { queue := [], dropped := 0, log := [], delivered := [], suspects := [] }

def Healths.init : Healths :=
  { latch := { kind := 0, at_ := 0, seq := 0, late := false, state := 0 }, latchImage := [],
    detectors := Vector.replicate 2 { mu := 0, nu := 0, c := 0 }, lastStep := 0, stepFlags := [], armedReq := false,
    lastReq := none, apertured := false, above := false, staleLink := false, staleTherm := false, riskView := 0,
    erasures := [], skipped := [] }

def Coord.init : Coord :=
  { readyOut := [], snapOut := [], stepC := 0, tierReqs := [], tierNext := 0, tierTurn := 0,
    xbar := [], powerEst := 0, powerCap := 100, clocks := [], groupRst := none }

def Group.init : Group :=
  { lc := LcSt.init, dict := GDict.init, ev := Events.init, health := Healths.init, coord := Coord.init }

/-- The machine right after a chip reset, before bring-up (15 R400, R408; 01 R60). What the spec gives no value is named
in notes/assumptions/2.md, 4.md and 5.md. -/
def State.reset : State :=
  { pending := [], time := 0, stepValue := 0, stepValid := false, engines := Vector.replicate 12 Engine.init,
    group := Group.init, tier := [], tierBase := 0, tierLimit := 2 ^ 43 - 1, freeCount := 0 }

end Sys2Proof.Machine
end

