-- ==== Sys2Proof/Machine/Ops.lean ====
section
/-!
DEFINITION. The named operations that every meaning is made of: byte storage, the engines of the state, dictionary
values and counters, event records, arrival counters, and the stack with what its controller answers.
-/

namespace Sys2Proof.Machine

open Sys2Proof

/-! ## Byte storage -/

/-- The cells of a byte run from an address on; a zero byte needs none. -/
def cellsOf : Nat → List Byte → Memory
  | _, [] => []
  | a, b :: bs => if b == 0 then cellsOf (a + 1) bs else (a, b) :: cellsOf (a + 1) bs

/-- Write a byte run. -/
def Memory.write (m : Memory) (a : Nat) (bs : List Byte) : Memory :=
  m.filter (fun c => decide (c.1 < a)) ++ cellsOf a bs ++ m.filter (fun c => decide (a + bs.length ≤ c.1))

/-- The byte at an address. -/
def Memory.byteAt (m : Memory) (a : Nat) : Byte := ((m.find? (fun c => c.1 == a)).map (·.2)).getD 0

/-- `n` bytes from an address, out of cells that start there. -/
def readLoop : Nat → Nat → Memory → List Byte
  | 0, _, _ => []
  | n + 1, _, [] => 0 :: readLoop n 0 []
  | n + 1, a, (b, v) :: rest => if b == a then v :: readLoop n (a + 1) rest else 0 :: readLoop n (a + 1) ((b, v) :: rest)

/-- Read a byte run. -/
def Memory.read (m : Memory) (a n : Nat) : List Byte := readLoop n a (m.filter (fun c => decide (a ≤ c.1)))

/-- Addresses strictly rising from a bound, no zero byte listed. -/
def wfFrom : Nat → Memory → Bool
  | _, [] => true
  | a, c :: rest => decide (a ≤ c.1) && c.2 != 0 && wfFrom (c.1 + 1) rest

/-- The canonical form of byte storage. -/
def Memory.wf (m : Memory) : Bool := wfFrom 0 m

/-! ## Engines -/

/-- The engine position of a number below 12. -/
def engineOf (n : Nat) : EngineId := Fin.ofNat 12 n

def State.eng (s : State) (e : EngineId) : Engine := s.engines[e]

/-- Change one engine and nothing else. -/
def State.modEng (s : State) (e : EngineId) (f : Engine → Engine) : State :=
  { s with engines := s.engines.set e (f s.engines[e]) }

def State.modBring (s : State) (e : EngineId) (f : Bring → Bring) : State := s.modEng e (fun g => { g with bring := f g.bring })
def State.modDict (s : State) (e : EngineId) (f : Dict → Dict) : State := s.modEng e (fun g => { g with dict := f g.dict })
def State.modIss (s : State) (e : EngineId) (f : Issue → Issue) : State := s.modEng e (fun g => { g with iss := f g.iss })
def State.modMem (s : State) (e : EngineId) (f : Stack → Stack) : State := s.modEng e (fun g => { g with mem := f g.mem })
def State.modJob (s : State) (e : EngineId) (f : JobSt → JobSt) : State := s.modEng e (fun g => { g with job := f g.job })
def State.modFab (s : State) (e : EngineId) (f : Fabric → Fabric) : State := s.modEng e (fun g => { g with fab := f g.fab })
def State.modReb (s : State) (e : EngineId) (f : Rebuild → Rebuild) : State := s.modEng e (fun g => { g with reb := f g.reb })
def State.modTier (s : State) (e : EngineId) (f : TierSt → TierSt) : State := s.modEng e (fun g => { g with tier := f g.tier })
def State.modSnap (s : State) (e : EngineId) (f : SnapSt → SnapSt) : State := s.modEng e (fun g => { g with snap := f g.snap })
def State.modLou (s : State) (e : EngineId) (f : Loupe → Loupe) : State := s.modEng e (fun g => { g with lou := f g.lou })
def State.modGroup (s : State) (f : Group → Group) : State := { s with group := f s.group }
def State.modEv (s : State) (f : Events → Events) : State := s.modGroup (fun g => { g with ev := f g.ev })
def State.modLc (s : State) (f : LcSt → LcSt) : State := s.modGroup (fun g => { g with lc := f g.lc })
def State.modGDict (s : State) (f : GDict → GDict) : State := s.modGroup (fun g => { g with dict := f g.dict })
def State.modHealth (s : State) (f : Healths → Healths) : State := s.modGroup (fun g => { g with health := f g.health })
def State.modCoord (s : State) (f : Coord → Coord) : State := s.modGroup (fun g => { g with coord := f g.coord })

/-- All positions, ascending. -/
def allEngines : List EngineId := List.finRange 12

/-- Present under 01 R54 and R60; a part in RETURN has no present position (16 R429). -/
def present (s : State) (e : EngineId) : Bool :=
  (s.eng e).bring.position == .present && s.group.lc.state != .returned

def presentEngines (s : State) : List EngineId := allEngines.filter (present s)

/-- Apply a change at each engine of a list, in order. -/
def forEngines (es : List EngineId) (f : State → EngineId → State) (s : State) : State := es.foldl f s

/-- Whether a job is armed here. -/
def armed (s : State) (e : EngineId) : Bool := (s.eng e).job.job.isSome

/-- The engine's step number, C + 1 (01 R51). -/
def stepNumber (s : State) (e : EngineId) : Nat := ((s.eng e).job.committed + 1) % 2 ^ 32

/-! ## Variant -/

def variant (s : State) : Nat := bits s.group.lc.fuses.toNat 15 12
def isSix (s : State) : Bool := variant s == 2
def facetMask (s : State) : Nat := bits s.group.lc.fuses.toNat 31 24
def engineMask (s : State) : Nat := bits s.group.lc.fuses.toNat 43 32
def kLimit (s : State) : Nat := bits s.group.lc.fuses.toNat 23 16

/-! ## Dictionary values and counters -/

/-- The value of a word in a register file, or its default (13 R371). -/
def regIn (six : Bool) (regs : RegFile) (index sub elem : Nat) : Nat :=
  match AList.get? regs (index, sub, elem) with
  | some v => v
  | none => match findEntry index sub with
    | some en => defaultWord six en sub elem
    | none => 0

/-- A committed scalar of an engine. -/
def reg (s : State) (e : EngineId) (r : Nat × Nat) : Nat := regIn (isSix s) (s.eng e).dict.regs r.1 r.2 0

/-- A committed word `elem` of a table, or of the `off`-th entry of a range. -/
def regElem (s : State) (e : EngineId) (r : Nat × Nat) (elem : Nat) : Nat := regIn (isSix s) (s.eng e).dict.regs r.1 r.2 elem
def regNth (s : State) (e : EngineId) (r : Nat × Nat) (off : Nat) : Nat :=
  regIn (isSix s) (s.eng e).dict.regs r.1 (r.2 + off) 0

/-- A committed scalar of the group. -/
def greg (s : State) (r : Nat × Nat) : Nat := regIn (isSix s) s.group.dict.regs r.1 r.2 0

def setReg (s : State) (e : EngineId) (r : Nat × Nat) (elem v : Nat) : State :=
  s.modDict e (fun d => { d with regs := AList.set d.regs (r.1, r.2, elem) v })

def blobIn (blobs : BlobFile) (index sub : Nat) : List Byte :=
  (AList.get? blobs (index, sub)).getD (defaultBlob index sub)

/-- Add to word `i` of a counter, modulo 2^64 (14 R378). -/
def bumpWord (cs : RegFile) (r : Nat × Nat) (i n : Nat) : RegFile :=
  AList.set cs (r.1, r.2, i) ((AList.getD cs (r.1, r.2, i) 0 + n) % 2 ^ 64)

def counter (s : State) (e : EngineId) (r : Nat × Nat) (i : Nat) : Nat := AList.getD (s.eng e).dict.counters (r.1, r.2, i) 0
def gcounter (s : State) (r : Nat × Nat) : Nat := AList.getD s.group.dict.counters (r.1, r.2, 0) 0

def bumpAt (s : State) (e : EngineId) (r : Nat × Nat) (i n : Nat) : State :=
  s.modDict e (fun d => { d with counters := bumpWord d.counters r i n })
def bump (s : State) (e : EngineId) (r : Nat × Nat) (n : Nat) : State := bumpAt s e r 0 n
def gbump (s : State) (r : Nat × Nat) (n : Nat) : State :=
  s.modGDict (fun d => { d with counters := bumpWord d.counters r 0 n })

/-- A counter that shows the last value of something. -/
def setCounter (s : State) (e : EngineId) (r : Nat × Nat) (v : Nat) : State :=
  s.modDict e (fun d => { d with counters := AList.set d.counters (r.1, r.2, 0) (v % 2 ^ 64) })

/-- Add a free number of cycles to a pressure counter, whose values carry no guarantee (00 R15). -/
def bumpCycles (s : State) (e : EngineId) (r : Nat × Nat) (i : Nat) : State :=
  { bumpAt s e r i (Config.stallCycles s.freeCount) with freeCount := s.freeCount + 1 }

/-! ## Event records -/

/-- Put a record into the queue and into the log ring (01 R44, 14 R377). -/
def queueRec (s : State) (r : EventRec) : State :=
  gbump (s.modEv (fun v => { v with queue := v.queue ++ [r], log := (r :: v.log).take 64 })) cntEventsRaised 1

/-- Count a dropped record (01 R45). -/
def dropRec (s : State) : State := gbump (s.modEv (fun v => { v with dropped := v.dropped + 1 })) cntEventOverflows 1

/-- The position of the newest queued record of severity 0. -/
def newestInfo (q : List EventRec) : Option Nat :=
  (q.reverse.findIdx? (fun r => r.severity == 0)).map (fun i => q.length - 1 - i)

/-- Offer a record to the queue of 256 (01 R45, 14 R377). Code 0x0110, CONFIG_APPLIED, is always queued. -/
def offer (s : State) (r : EventRec) : State :=
  if r.severity == 0 && greg s regEventInfoEnable == 0 && r.code != 0x0110 then gbump s cntEventsSuppressed 1
  else if s.group.ev.queue.length < 256 then queueRec s r
  else if r.severity != 3 then dropRec s
  else match newestInfo s.group.ev.queue with
    | none => dropRec s
    | some i => queueRec (dropRec (s.modEv (fun v => { v with queue := v.queue.eraseIdx i }))) r

/-- A record about an engine, and about an instruction where one is named (01 R44). -/
def raiseFor (s : State) (e : EngineId) (facet code sev stream status tag args : Nat) : State :=
  offer s { time := s.time, step := stepNumber s e, code := code, engine := e.val, facet := facet, severity := sev,
            stream := stream, status := status, tag := tag, args := args % 2 ^ 96 }

/-- A record about an engine with no instruction concerned. -/
def raise (s : State) (e : EngineId) (code sev args : Nat) : State := raiseFor s e 0xf code sev 0 0 0 args

/-- A record of the coordinator (14, "Event records"). -/
def raiseGroup (s : State) (code sev args : Nat) : State :=
  offer s { time := s.time, step := (s.group.coord.stepC + 1) % 2 ^ 32, code := code, engine := 0xe, facet := 0xf,
            severity := sev, stream := 0, status := 0, tag := 0, args := args % 2 ^ 96 }

/-- ARGS that name a window and a row (14 R376). -/
def argsRow (window row : Nat) : Nat := put row 28 4 + put window 4 0

/-! ## Arrival counters -/

def Arrival.zero : Arrival := { value := 0, error := false }

def arrival (s : State) (e : EngineId) (i : Nat) : Arrival := AList.getD (s.eng e).iss.arrivals i Arrival.zero

/-- Set a counter and publish the update (01 R40, R41). -/
def setArrival (s : State) (e : EngineId) (i : Nat) (a : Arrival) : State :=
  s.modIss e (fun q => { q with
    arrivals := AList.set q.arrivals i a
    counterOut := q.counterOut ++ [{ engine := e.val, index := i, value := a.value, error := a.error }] })

/-- Add to a counter, with its ERROR flag where a status calls for it (01 R42, 12 R340). -/
def addArrival (s : State) (e : EngineId) (i n : Nat) (err : Bool) : State :=
  let a := arrival s e i
  setArrival s e i { value := a.value + BitVec.ofNat 32 n, error := a.error || err }

/-! ## The stack -/

/-- Granules in the stack (01 R17). -/
def stackGranules : Nat := 2 ^ 30
def stackBytes : Nat := 2 ^ 36

/-- The granules a byte range touches. -/
def granulesOf (a n : Nat) : List Nat := if n == 0 then [] else (List.range ((a + n - 1) / 64 - a / 64 + 1)).map (· + a / 64)

/-- Stored data that cannot be read: uncorrectable or poisoned (01 R18, R19). -/
def granuleBad (s : State) (e : EngineId) (g : Nat) : Bool :=
  match AList.get? (s.eng e).mem.health g with
  | some .uncorrectable => true
  | some .poisoned => true
  | _ => false

/-- Every granule of a range can be read and lies in the stack. -/
def readable (s : State) (e : EngineId) (a n : Nat) : Bool :=
  a + n ≤ stackBytes && (granulesOf a n).all (fun g => !granuleBad s e g)

def hbm (s : State) (e : EngineId) (a n : Nat) : List Byte := (s.eng e).mem.hbm.read a n

/-- The little-endian number of `n` bytes in the stack. -/
def hbmNat (s : State) (e : EngineId) (a n : Nat) : Nat := leNat (hbm s e a n)

/-- What a write of a range does to the answers of its granules (01 R18). -/
def healthAfter (h : AList Nat Health) (a n : Nat) : AList Nat Health :=
  (granulesOf a n).foldl (fun h g =>
    if a ≤ 64 * g && 64 * g + 64 ≤ a + n then AList.erase h g
    else match AList.get? h g with
      | some .uncorrectable => AList.set h g .poisoned
      | some .poisoned => h
      | _ => AList.erase h g) h

/-- Write bytes into the stack; a write beyond it is not performed (01 R18). -/
def setHbm (s : State) (e : EngineId) (a : Nat) (bs : List Byte) : State :=
  if a + bs.length ≤ stackBytes then
    s.modMem e (fun m => { m with hbm := m.hbm.write a bs, health := healthAfter m.health a bs.length })
  else s

/-- Byte storage with a range cleared. -/
def Memory.clear (m : Memory) (a n : Nat) : Memory := m.filter (fun c => decide (c.1 < a) || decide (a + n ≤ c.1))

/-- Zero-fill a range of the stack: a write as any other (01 R18). -/
def zeroHbm (s : State) (e : EngineId) (a n : Nat) : State :=
  if a + n ≤ stackBytes then
    s.modMem e (fun m => { m with
      hbm := m.hbm.clear a n
      health := m.health.filterMap (fun p =>
        if 64 * p.1 + 64 ≤ a || a + n ≤ 64 * p.1 then some p
        else if a ≤ 64 * p.1 && 64 * p.1 + 64 ≤ a + n then none
        else if p.2 == .corrected then none else some (p.1, .poisoned)) })
  else s

def setHbmNat (s : State) (e : EngineId) (a v n : Nat) : State := setHbm s e a (leBytes v n)

/-- The tag after the newest request's (01 R17). -/
def nextTag (reqs : List MemReq) : Nat := match reqs.getLast? with | none => 0 | some r => (r.tag + 1) % 4096

/-- Append requests under the next tags. A request whose tag comes round again was answered clean by a response that no command
reports (notes/assumptions/8.md), so that the tags outstanding stay unique and at most 4,096 (01 R17). -/
def issueReqs (reqs new : List MemReq) : List MemReq :=
  let t := nextTag reqs
  let new := new.drop (new.length - 4096)
  reqs.filter (fun r => new.length ≤ (r.tag + 4096 - t) % 4096)
    ++ new.zipIdx.map (fun p => { p.1 with tag := (t + p.2) % 4096 })

/-- The bytes of granule `g` that a range covers, as BYTE_EN. -/
def byteMask (g a n : Nat) : BitVec 64 :=
  let lo := a - 64 * g
  let hi := min 64 (a + n - 64 * g)
  BitVec.ofNat 64 (2 ^ hi - 2 ^ lo)

/-- The request for a granule, with the bytes that a write of it covers. A write's beat is what the stack holds of the granule once
the write has been made. -/
def memReqOf (s : State) (e : EngineId) (cls : Nat) (op : Option Nat) (write poison : Bool) (g : Nat × BitVec 64) : MemReq :=
  { op := if write then .write else .read, cls := cls, tag := 0, granule := g.1, byteEn := if write then g.2 else 0,
    data := if write then (s.eng e).mem.hbm.read (64 * g.1) 64 else [], poison := poison, owner := op }

/-- Requests to the stack and their count per CLASS: 0 sweep and accumulation, 1 coding, 2 rebuild, 3 snapshot, scrub and drill (01
R17, 14 R379). A write is noted once it has been made. -/
def noteReqs (s : State) (e : EngineId) (cls : Nat) (op : Option Nat) (write poison : Bool) (gs : List (Nat × BitVec 64)) : State :=
  let gs := gs.filter (fun g => g.1 < stackGranules)
  let new := gs.map (memReqOf s e cls op write poison)
  bumpAt (s.modMem e (fun m => { m with memReqs := issueReqs m.memReqs new })) e cntMemRequests cls gs.length

/-- The requests of an access to a byte range. -/
def noteMem (s : State) (e : EngineId) (cls : Nat) (op : Option Nat) (write : Bool) (a n : Nat) : State :=
  noteReqs s e cls op write false ((granulesOf a n).map (fun g => (g, byteMask g a n)))

/-- A read through the memory-side port: its bytes, once its requests have been noted. -/
def fetchMem (s : State) (e : EngineId) (cls : Nat) (op : Option Nat) (a n : Nat) : State × List Byte :=
  (noteMem s e cls op false a n, hbm s e a n)

/-- A write through the memory-side port. -/
def storeMem (s : State) (e : EngineId) (cls : Nat) (op : Option Nat) (a : Nat) (bs : List Byte) : State :=
  noteMem (setHbm s e a bs) e cls op true a bs.length

/-- Free value: words that the spec leaves open. -/
def freeBytes (c n : Nat) : List Byte := (List.range n).map (fun i => Config.instrumentByte (c + i))

/-- Use up `n` free values. -/
def useFree (s : State) (n : Nat) : State := { s with freeCount := s.freeCount + n }

end Sys2Proof.Machine
end

