-- ==== Sys2Proof/Machine/Flags.lean ====
section
/-!
DEFINITION. Completion statuses with their severities and order (12 R354, R355), and the event codes of 14 R376.
-/

namespace Sys2Proof.Machine

open Sys2Proof

/-- Errors set the ERROR flag of the counter: every status but 0x00 and 0x01 (01 R42). -/
def isError (status : Nat) : Bool := status != 0x00 && status != 0x01

/-- The severity of a completion status's record (12 R355). -/
def statusSeverity (status : Nat) : Nat := if [0x10, 0x11, 0x40, 0x60].contains status then 2 else 1

/-- The rank of a status in the order of 12 R354; the least rank wins. -/
def statusRank (status : Nat) : Nat :=
  if status == 0x50 then 1
  else if status == 0x10 || status == 0x11 || status == 0x12 then 2
  else if status == 0x40 then 3
  else if status == 0x30 || status == 0x31 then 4
  else if status == 0x60 then 5
  else if status == 0x20 || status == 0x21 then 6
  else if status == 0x01 then 7
  else 8

/-- The status of an operation that met these causes: the first in the order of 12 R354, the earliest among equals. -/
def worstStatus (causes : List Nat) : Nat :=
  causes.foldl (fun best c => if statusRank c < statusRank best then c else best) 0x00

def evOverflow : Nat := 0x0001
def evOpStatus : Nat := 0x0100
def evConfigApplied : Nat := 0x0110
def evConfigRejected : Nat := 0x0111
def evConfigAbandoned : Nat := 0x0112
def evMapRefused : Nat := 0x0120
def evStepMismatch : Nat := 0x0121
def evTimeBackward : Nat := 0x0122
def evLatchCancelled : Nat := 0x0123
def evCodedWriteRefused : Nat := 0x0130
def evRemoteUntranslated : Nat := 0x0131
def evLedgerColumn : Nat := 0x0132
def evLossSuspect : Nat := 0x0200
def evLossCleared : Nat := 0x0201
def evEnrolled : Nat := 0x0202
def evRebuildWindowDone : Nat := 0x0203
def evRebuildDone : Nat := 0x0204
def evRowUndecodable : Nat := 0x0205
def evTornWrite : Nat := 0x0206
def evStepSkipped : Nat := 0x0300
def evLateChunk : Nat := 0x0301
def evCloseExcess : Nat := 0x0302
def evPendRingFull : Nat := 0x0400
def evPendDeadlineNear : Nat := 0x0401
def evParcelCorrupt : Nat := 0x0402
def evMirrorMismatch : Nat := 0x0500
def evSilentCorruption : Nat := 0x0501
def evRowInconsistent : Nat := 0x0502
def evHbmErasure : Nat := 0x0503
def evMacroRetired : Nat := 0x0504
def evFlipmaskFired : Nat := 0x0505
def evCeBucketOverflow : Nat := 0x0506
def evSramUncorrectable : Nat := 0x0507
def evFacetFault : Nat := 0x0600
def evEngineFault : Nat := 0x0601
def evSecureRequest : Nat := 0x0700
def evLossSpike : Nat := 0x0701
def evGnormSpike : Nat := 0x0702
def evNonfiniteSteprec : Nat := 0x0703
def evRiskInputStale : Nat := 0x0704
def evDrillDone : Nat := 0x0800
def evDrillFailed : Nat := 0x0801

end Sys2Proof.Machine
end

