-- ==== Sys2Proof/Machine/Formats.lean ====
section
/-!
DEFINITION. Number formats, exact decoding, correctly rounded FP32 arithmetic and the conversions of 02 R61-R78.
A finite value is held exactly as sign, magnitude and power of two.
-/

namespace Sys2Proof.Machine

open Sys2Proof

/-- A value: NaN (one NaN, 02 R66), an infinity, or (-1)^neg · mant · 2^exp. -/
inductive Val where
  | nan
  | inf (neg : Bool)
  | fin (neg : Bool) (mant : Nat) (exp : Int)
deriving DecidableEq, Repr

/-- A floating-point layout: exponent and mantissa widths, bias, and whether it has infinities and NaNs (02 R65). -/
structure Fmt where
  eb     : Nat
  mb     : Nat
  bias   : Nat
  hasInf : Bool
  hasNan : Bool
deriving DecidableEq, Repr

def fmtFp32 : Fmt := { eb := 8, mb := 23, bias := 127, hasInf := true, hasNan := true }
def fmtBf16 : Fmt := { eb := 8, mb := 7, bias := 127, hasInf := true, hasNan := true }
def fmtFp16 : Fmt := { eb := 5, mb := 10, bias := 15, hasInf := true, hasNan := true }
def fmtE4M3 : Fmt := { eb := 4, mb := 3, bias := 7, hasInf := false, hasNan := true }
def fmtE5M2 : Fmt := { eb := 5, mb := 2, bias := 15, hasInf := true, hasNan := true }
def fmtE3M2 : Fmt := { eb := 3, mb := 2, bias := 3, hasInf := false, hasNan := false }
def fmtE2M3 : Fmt := { eb := 2, mb := 3, bias := 1, hasInf := false, hasNan := false }
def fmtE2M1 : Fmt := { eb := 2, mb := 1, bias := 1, hasInf := false, hasNan := false }

/-- The number of the largest finite magnitude code of a layout (02 R65). -/
def Fmt.maxCode (f : Fmt) : Nat :=
  if f.hasInf then (2 ^ f.eb - 1) * 2 ^ f.mb - 1
  else if f.hasNan then 2 ^ (f.eb + f.mb) - 2
  else 2 ^ (f.eb + f.mb) - 1

/-- The least exponent of a layout's grid: the spacing of its subnormals. -/
def Fmt.minExp (f : Fmt) : Int := 1 - (f.bias : Int) - f.mb

/-- Exact decoding of a code (02 R65). -/
def Fmt.decode (f : Fmt) (c : Nat) : Val :=
  let neg := bit c (f.eb + f.mb)
  let e := c / 2 ^ f.mb % 2 ^ f.eb
  let m := c % 2 ^ f.mb
  if f.hasInf && e == 2 ^ f.eb - 1 then (if m == 0 then .inf neg else .nan)
  else if !f.hasInf && f.hasNan && c % 2 ^ (f.eb + f.mb) == 2 ^ (f.eb + f.mb) - 1 then .nan
  else if e == 0 then .fin neg m f.minExp
  else .fin neg (2 ^ f.mb + m) (f.minExp + (e - 1 : Nat))

/-- floor(log2 m) for m > 0. -/
def lg (m : Nat) : Nat := Nat.log2 m

/-- `m · 2^e` in units of `2^u`, rounded to nearest, ties to even. -/
def rneUnits (m : Nat) (e u : Int) : Nat :=
  if u ≤ e then m * 2 ^ (e - u).toNat
  else
    let d := (u - e).toNat
    let q := m / 2 ^ d
    let r := m % 2 ^ d
    if 2 * r > 2 ^ d || (2 * r == 2 ^ d && q % 2 == 1) then q + 1 else q

/-- `m · 2^e` in units of `2^u`, rounded stochastically by the word `w` (02 R70). -/
def stoUnits (w m : Nat) (e u : Int) : Nat :=
  if u ≤ e then m * 2 ^ (e - u).toNat
  else
    let d := (u - e).toNat
    let q := m / 2 ^ d
    let f := m % 2 ^ d * 2 ^ 32 / 2 ^ d
    if w + f ≥ 2 ^ 32 then q + 1 else q

/-- The exponent of the grid around a magnitude in a layout (subnormals included). -/
def Fmt.unit (f : Fmt) (m : Nat) (e : Int) : Int := max f.minExp (e + lg m - f.mb)

/-- The magnitude code of a rounded magnitude `q` on the grid `2^u`. -/
def Fmt.magCode (f : Fmt) (q : Nat) (u : Int) : Nat := (u - f.minExp).toNat * 2 ^ f.mb + q

/-- What a conversion did beside its result: the non-finite indication, and saturation (02 R69). -/
structure Enc where
  code : Nat
  flag : Bool
  sat  : Bool
deriving DecidableEq, Repr

/-- How a magnitude is rounded: nearest-even, or stochastically by a word (02 R68, R70). -/
inductive Round where
  | rne
  | stochastic (word : Nat)
deriving DecidableEq, Repr

def Round.units (r : Round) (m : Nat) (e u : Int) : Nat :=
  match r with
  | .rne => rneUnits m e u
  | .stochastic w => stoUnits w m e u

/-- Encode into a floating-point layout, with the overflow rules of 02 R69. -/
def Fmt.encode (f : Fmt) (r : Round) (v : Val) : Enc :=
  let s := fun (neg : Bool) => b2n neg * 2 ^ (f.eb + f.mb)
  match v with
  | .nan =>
    let c := if f.hasInf then (2 ^ f.eb - 1) * 2 ^ f.mb + 2 ^ (f.mb - 1)
             else if f.hasNan then 2 ^ (f.eb + f.mb) - 1 else 0
    { code := c, flag := true, sat := false }
  | .inf neg =>
    { code := s neg + (if f.hasInf then (2 ^ f.eb - 1) * 2 ^ f.mb else f.maxCode), flag := true, sat := false }
  | .fin neg m e =>
    if m == 0 then { code := s neg, flag := false, sat := false }
    else
      let u := f.unit m e
      let c := f.magCode (r.units m e u) u
      if c ≤ f.maxCode then { code := s neg + c, flag := false, sat := false }
      else if f.hasInf then { code := s neg + (2 ^ f.eb - 1) * 2 ^ f.mb, flag := true, sat := false }
      else { code := s neg + f.maxCode, flag := false, sat := true }

/-- An FP32 word, the currency of every conversion (02, "Conversions"). -/
abbrev F32 := BitVec 32

def F32.val (x : F32) : Val := fmtFp32.decode x.toNat

/-- The FP32 nearest to an exact value, ties to even. -/
def Val.f32 (v : Val) : F32 := BitVec.ofNat 32 (fmtFp32.encode .rne v).code

def f32Nan : F32 := 0x7fc00000
def f32One : F32 := 0x3f800000
def f32Inf : F32 := 0x7f800000

def F32.isNan (x : F32) : Bool := x.val == .nan
def F32.isFinite (x : F32) : Bool := bits x.toNat 30 23 != 0xff
def F32.isZero (x : F32) : Bool := x.toNat % 2 ^ 31 == 0
def F32.neg (x : F32) : F32 := if x.isNan then f32Nan else x ^^^ 0x80000000

/-- The sum of two exact values; an exact zero is +0 unless both are -0 (IEEE 754 roundTiesToEven). -/
def Val.add : Val → Val → Val
  | .nan, _ => .nan
  | _, .nan => .nan
  | .inf a, .inf b => if a == b then .inf a else .nan
  | .inf a, _ => .inf a
  | _, .inf b => .inf b
  | .fin a m e, .fin b n f =>
    let u := min e f
    let x : Int := (m * 2 ^ (e - u).toNat : Nat)
    let y : Int := (n * 2 ^ (f - u).toNat : Nat)
    let z := (if a then -x else x) + (if b then -y else y)
    if z == 0 then .fin (a && b) 0 0 else .fin (z < 0) z.natAbs u

def Val.mul : Val → Val → Val
  | .nan, _ => .nan
  | _, .nan => .nan
  | .inf a, .inf b => .inf (a != b)
  | .inf a, .fin b n _ => if n == 0 then .nan else .inf (a != b)
  | .fin a m _, .inf b => if m == 0 then .nan else .inf (a != b)
  | .fin a m e, .fin b n f => .fin (a != b) (m * n) (e + f)

def Val.negate : Val → Val
  | .nan => .nan
  | .inf a => .inf (!a)
  | .fin a m e => .fin (!a) m e

/-- A quotient with 80 bits below the divisor and a sticky bit: it rounds to FP32 as the exact quotient does. -/
def Val.div : Val → Val → Val
  | .nan, _ => .nan
  | _, .nan => .nan
  | .inf _, .inf _ => .nan
  | .inf a, .fin b _ _ => .inf (a != b)
  | .fin a _ _, .inf b => .fin (a != b) 0 0
  | .fin a m e, .fin b n f =>
    if n == 0 then (if m == 0 then .nan else .inf (a != b))
    else
      let k := 80 + lg n
      let q := m * 2 ^ k / n
      let sticky := if m * 2 ^ k % n == 0 then 0 else 1
      if m == 0 then .fin (a != b) 0 0 else .fin (a != b) (2 * q + sticky) (e - f - k - 1)

/-- Integer square root by bisection, `n` bits. -/
def isqrtLoop : Nat → Nat → Nat → Nat
  | 0, r, _ => r
  | n + 1, r, x => if (r + 2 ^ n) * (r + 2 ^ n) ≤ x then isqrtLoop n (r + 2 ^ n) x else isqrtLoop n r x

def isqrt (x : Nat) : Nat := isqrtLoop (Nat.log2 x / 2 + 1) 0 x

/-- A root with 60 bits more than the operand and a sticky bit. -/
def Val.sqrt : Val → Val
  | .nan => .nan
  | .inf a => if a then .nan else .inf false
  | .fin a m e =>
    if m == 0 then .fin a 0 0
    else if a then .nan
    else
      let x := if e % 2 == 0 then m * 2 ^ 120 else m * 2 ^ 121
      let e' := if e % 2 == 0 then e else e - 1
      let r := isqrt x
      .fin false (2 * r + (if r * r == x then 0 else 1)) (e' / 2 - 61)

def F32.add (a b : F32) : F32 := (a.val.add b.val).f32
def F32.sub (a b : F32) : F32 := (a.val.add b.val.negate).f32
def F32.mul (a b : F32) : F32 := (a.val.mul b.val).f32
def F32.div (a b : F32) : F32 := (a.val.div b.val).f32
def F32.fma (a b c : F32) : F32 := ((a.val.mul b.val).add c.val).f32
def F32.sqrt (a : F32) : F32 := a.val.sqrt.f32

/-- A total order key on numbers that are not NaN, with -0 below +0 (06 R170). -/
def F32.key (x : F32) : Int := if x.msb then -((x.toNat % 2 ^ 31 : Nat) : Int) - 1 else (x.toNat : Int)

/-- a < b as numbers; false with a NaN. -/
def F32.lt (a b : F32) : Bool :=
  !a.isNan && !b.isNan && !(a.isZero && b.isZero) && decide (a.key < b.key)
def F32.le (a b : F32) : Bool := !a.isNan && !b.isNan && !(F32.lt b a)

def F32.max (a b : F32) : F32 := if a.isNan || b.isNan then f32Nan else if b.key ≤ a.key then a else b
def F32.min (a b : F32) : F32 := if a.isNan || b.isNan then f32Nan else if a.key ≤ b.key then a else b
def F32.abs (a : F32) : F32 := if a.isNan then f32Nan else a &&& 0x7fffffff

/-- The FP32 nearest to an integer or a ratio of integers. -/
def f32OfInt (x : Int) : F32 := (Val.fin (x < 0) x.natAbs 0).f32
def f32OfRatio (a b : Nat) : F32 := ((Val.fin false a 0).div (.fin false b 0)).f32

/-- The integer nearest to a finite value, ties to even (02 R68). -/
def rneInt (m : Nat) (e : Int) : Nat := rneUnits m e 0

/-- INT8 and INT16 (02 R69, R78): two's-complement code of width `w`. -/
def encodeInt (w : Nat) (v : Val) : Enc :=
  let top := 2 ^ (w - 1)
  match v with
  | .nan => { code := 0, flag := true, sat := false }
  | .inf neg => { code := if neg then top else top - 1, flag := true, sat := false }
  | .fin neg m e =>
    let q := rneInt m e
    if neg then
      if q ≤ top then { code := (2 ^ w - q) % 2 ^ w, flag := false, sat := false }
      else { code := top, flag := false, sat := true }
    else
      if q ≤ top - 1 then { code := q, flag := false, sat := false }
      else { code := top - 1, flag := false, sat := true }

/-- The eighth root's integer part: largest r with r^8 ≤ x, by `n` bits. -/
def root8Loop : Nat → Nat → Nat → Nat
  | 0, r, _ => r
  | n + 1, r, x => if (r + 2 ^ n) ^ 8 ≤ x then root8Loop n (r + 2 ^ n) x else root8Loop n r x

/-- The FP32 nearest to 2^(t/8): the tables T and L of 02 R76 and R77. The root of 2^(t mod 8) is taken to 40 bits and is
exact only where it is a power of two, so no tie arises. -/
def pow2eighth (t : Int) : F32 :=
  let q := t / 8
  let r := (t % 8).toNat
  let x := root8Loop 42 0 (2 ^ (r + 8 * 40))
  let sticky := if r == 0 then 0 else 1
  (Val.fin false (2 * x + sticky) (q - 41)).f32

/-- T[c] (02 R76). -/
def logT (c : Nat) : F32 := pow2eighth (2 * ((c : Int) - 200))

/-- L[c] (02 R77). -/
def logL (c : Nat) : F32 := pow2eighth (2 * (c : Int) - 401)

/-- The largest code up to `n` whose threshold `x` reaches; 0 below L[1] (02 R77). -/
def logSearch (x : F32) : Nat → Nat
  | 0 => 0
  | n + 1 => if F32.le (logL (n + 1)) x then n + 1 else logSearch x n

/-- LOG8 (02 R69, R76, R77). -/
def encodeLog8 (x : F32) : Enc :=
  match x.val with
  | .nan => { code := 0xff, flag := true, sat := false }
  | .inf neg => { code := if neg then 0xff else 0xfe, flag := true, sat := false }
  | .fin neg m _ =>
    if m == 0 then { code := 0, flag := false, sat := false }
    else if neg then { code := 0xff, flag := true, sat := false }
    else if F32.le (logL 255) x then { code := 0xfe, flag := false, sat := true }
    else { code := logSearch x 254, flag := false, sat := false }

def decodeLog8 (c : Nat) : F32 := if c == 0 then 0 else if c == 0xff then f32Nan else logT c

/-- Format codes 0x0-0xE: bits of one element in its element plane (02 R61, R64). -/
def elemBits (fmt : Nat) : Nat :=
  match fmt with
  | 0x0 => 32 | 0x1 => 16 | 0x2 => 16 | 0x3 => 8 | 0x4 => 8 | 0x5 => 6 | 0x6 => 6 | 0x7 => 4 | 0x8 => 8
  | 0x9 => 16 | 0xa => 8 | 0xb => 8 | 0xc => 6 | 0xd => 4 | 0xe => 16 | _ => 8

/-- Block size of a block format; 0 for a plain one (02 R64). -/
def blockSize (fmt : Nat) : Nat := if fmt == 0xb || fmt == 0xc || fmt == 0xd then 32 else if fmt == 0xe then 64 else 0

/-- The layout of a format's element, where it is a floating-point one. -/
def elemFmt (fmt : Nat) : Option Fmt :=
  match fmt with
  | 0x0 => some fmtFp32 | 0x1 => some fmtBf16 | 0x2 => some fmtFp16 | 0x3 => some fmtE4M3 | 0x4 => some fmtE5M2
  | 0x5 => some fmtE3M2 | 0x6 => some fmtE2M3 | 0x7 => some fmtE2M1 | 0xb => some fmtE4M3 | 0xc => some fmtE3M2
  | 0xd => some fmtE2M1 | _ => none

/-- Element `i` of a plane of `w`-bit elements, packed little-endian (02 R63). -/
def elemAt (plane : List Byte) (w i : Nat) : Nat :=
  let b := w * i / 8
  leAt plane b ((w + 7) / 8 + 1) / 2 ^ (w * i % 8) % 2 ^ w

/-- The bytes of a run of `w`-bit elements (02 R63). -/
def packElems (w : Nat) (xs : List Nat) : List Byte :=
  leBytes (xs.foldr (fun x acc => x % 2 ^ w + 2 ^ w * acc) 0) (w * xs.length / 8)

/-- A plain element decoded to FP32 (02 R68). -/
def decodeElem (fmt c : Nat) : F32 :=
  match elemFmt fmt with
  | some f => (f.decode c).f32
  | none => if fmt == 0x8 then f32OfInt (signed c 8) else if fmt == 0x9 then f32OfInt (signed c 16) else decodeLog8 c

/-- An element of an MX block under its scale; a scale of 0xFF makes every element NaN (02 R65, R68, R69). -/
def decodeMx (fmt scale c : Nat) : F32 :=
  if scale == 0xff then f32Nan
  else match elemFmt fmt with
    | none => f32Nan
    | some f => match f.decode c with
      | .fin neg m e => (Val.fin neg m (e + (scale : Int) - 127)).f32
      | v => v.f32

/-- Encode a plain format (02 R68, R69). Stochastic rounding applies to the third row of R68 only. -/
def encodeElem (fmt : Nat) (r : Round) (x : F32) : Enc :=
  match fmt with
  | 0x0 => { code := if x.isNan then f32Nan.toNat else x.toNat, flag := !x.isFinite, sat := false }
  | 0x8 => encodeInt 8 x.val
  | 0x9 => encodeInt 16 x.val
  | 0xa => encodeLog8 x
  | _ => match elemFmt fmt with
    | some f => f.encode r x.val
    | none => { code := 0, flag := true, sat := false }

/-- emax of an MX element format (02 R73). -/
def mxEmax (fmt : Nat) : Int := if fmt == 0xb then 8 else if fmt == 0xc then 4 else 2

/-- floor(log2 |x|) of a non-zero finite value. -/
def Val.ilog2 : Val → Int
  | .fin _ m e => e + lg m
  | _ => 0

/-- The scale code of an MX block (02 R73): from the largest magnitude. -/
def mxScale (fmt : Nat) (xs : List F32) : Nat :=
  let mags := xs.map (fun x => (x &&& 0x7fffffff : F32))
  let amax := mags.foldl (fun a b => if a.toNat < b.toNat then b else a) 0
  if amax.toNat == 0 then 0x7f
  else
    let e := amax.val.ilog2 - mxEmax fmt
    (max (-127) (min 127 e) + 127).toNat

/-- Encode an MX block: its scale and elements; whether it is flagged, and how many elements saturated (02 R69, R73). -/
def encodeMx (fmt : Nat) (rs : List Round) (xs : List F32) : Nat × List Nat × Bool × Nat :=
  if xs.any (fun x => !x.isFinite) then (0xff, xs.map (fun _ => 0), true, 0)
  else
    let sc := mxScale fmt xs
    match elemFmt fmt with
    | none => (0xff, xs.map (fun _ => 0), true, 0)
    | some f =>
      let es := (xs.zip rs).map (fun p => match p.1.val with
        | .fin neg m e => f.encode p.2 (.fin neg m (e - sc + 127))
        | v => f.encode p.2 v)
      (sc, es.map (·.code), false, (es.filter (·.sat)).length)

/-- A G16S tile's element. A mantissa of -32,768 with e = 254 is -2^128, which FP32 does not hold: it decodes to -infinity (02 R74;
notes/assumptions/63.md, DESIGN CHOICE). -/
def decodeG16 (e c : Nat) : F32 :=
  if e == 0xff then (if c == 0x7fff then f32Inf else if c == 0x8001 then 0xff800000 else f32Nan)
  else (Val.fin (signed c 16 < 0) (signed c 16).natAbs ((e : Int) - 141)).f32

/-- Encode 64 exact values into a G16S tile: exponent, mantissa codes, saturations (02 R75). -/
def encodeG16 (xs : List Val) : Nat × List Nat × Nat :=
  if xs.any (fun v => match v with | .fin .. => false | _ => true) then
    (0xff, xs.map (fun v => match v with
      | .inf false => 0x7fff
      | .inf true => 0x8001
      | _ => 0x8000), 0)
  else if xs.all (fun v => match v with | .fin _ m _ => m == 0 | _ => false) then (0, xs.map (fun _ => 0), 0)
  else
    let logs := xs.filterMap (fun v => match v with
      | .fin _ m e => if m == 0 then none else some (e + lg m)
      | _ => none)
    let top := logs.foldl max (logs.headD 0)
    let e := (max 0 (min 254 (top + 127))).toNat
    let mants := fun (e : Nat) => xs.map (fun v => match v with
      | .fin neg m x => let q := rneUnits m x ((e : Int) - 141)
                        if neg then -(q : Int) else (q : Int)
      | _ => 0)
    let code := fun (q : Int) => (q % 65536).toNat
    if (mants e).any (fun q => q.natAbs > 32767) then
      if e < 254 then (e + 1, (mants (e + 1)).map code, 0)
      else (e, (mants e).map (fun q => code (max (-32767) (min 32767 q))),
            ((mants e).filter (fun q => q.natAbs > 32767)).length)
    else (e, (mants e).map code, 0)

end Sys2Proof.Machine
end

