-- ==== Sys2Proof/Machine/Hash.lean ====
section
/-!
DEFINITION. The published functions the spec names: Philox4x32-10 (02 R71), CRC-32C (11 R311), BLAKE3-256 (11 R306),
and Ed25519 under RFC 8032 (16 R422-R424). The algorithms of BLAKE3, SHA-512 and Ed25519 come from their published
definitions (notes/assumptions/7.md).
-/

namespace Sys2Proof.Machine

open Sys2Proof

/-- One round of Philox4x32 (02 R71). -/
def philoxLoop : Nat → Nat × Nat × Nat × Nat → Nat → Nat → Nat × Nat × Nat × Nat
  | 0, c, _, _ => c
  | n + 1, (c0, c1, c2, c3), k0, k1 =>
    let p0 := 0xd2511f53 * c0
    let p1 := 0xcd9e8d57 * c2
    philoxLoop n
      (p1 / 2 ^ 32 ^^^ c1 ^^^ k0, p1 % 2 ^ 32, p0 / 2 ^ 32 ^^^ c3 ^^^ k1, p0 % 2 ^ 32)
      ((k0 + 0x9e3779b9) % 2 ^ 32) ((k1 + 0xbb67ae85) % 2 ^ 32)

/-- Philox4x32-10 (02 R71). -/
def philox (c0 c1 c2 c3 k0 k1 : Nat) : Nat × Nat × Nat × Nat := philoxLoop 10 (c0, c1, c2, c3) k0 k1

/-- The rounding word of an element (02 R71). -/
def roundWord (seed rstream step g : Nat) : Nat :=
  let r := philox (bits g 33 2) (bits g 47 34) (step % 2 ^ 32) 0 (seed % 2 ^ 32) (bits seed 63 32 ^^^ rstream % 2 ^ 16)
  match g % 4 with
  | 0 => r.1
  | 1 => r.2.1
  | 2 => r.2.2.1
  | _ => r.2.2.2

/-- Eight shifts of the reflected CRC register. -/
def crcShift : Nat → Nat → Nat
  | 0, c => c
  | n + 1, c => crcShift n (if c % 2 == 1 then c / 2 ^^^ 0x82f63b78 else c / 2)

/-- CRC-32C (11 R311). -/
def crc32c (bs : List Byte) : Nat :=
  bs.foldl (fun c b => crcShift 8 (c ^^^ b.toNat)) 0xffffffff ^^^ 0xffffffff

/-- The first primes, the seed of the SHA-2 constants. -/
def primesBelow (n : Nat) : List Nat :=
  (List.range n).filter (fun p => 2 ≤ p && (List.range p).all (fun d => d < 2 || p % d != 0))

/-- 32 bits of the fraction of the square root of a number: the words of BLAKE3's initial value. -/
def blakeIv (i : Nat) : BitVec 32 := BitVec.ofNat 32 (isqrt (([2, 3, 5, 7, 11, 13, 17, 19].getD i 2) * 2 ^ 64))

/-- The sixteen working words of a BLAKE3 compression, in rows of four. -/
structure Blake where
  a0 : BitVec 32
  a1 : BitVec 32
  a2 : BitVec 32
  a3 : BitVec 32
  b0 : BitVec 32
  b1 : BitVec 32
  b2 : BitVec 32
  b3 : BitVec 32
  c0 : BitVec 32
  c1 : BitVec 32
  c2 : BitVec 32
  c3 : BitVec 32
  d0 : BitVec 32
  d1 : BitVec 32
  d2 : BitVec 32
  d3 : BitVec 32
deriving DecidableEq, Repr

/-- The quarter round of BLAKE3. -/
def blakeG (a b c d x y : BitVec 32) : BitVec 32 × BitVec 32 × BitVec 32 × BitVec 32 :=
  let a := a + b + x
  let d := (d ^^^ a).rotateRight 16
  let c := c + d
  let b := (b ^^^ c).rotateRight 12
  let a := a + b + y
  let d := (d ^^^ a).rotateRight 8
  let c := c + d
  let b := (b ^^^ c).rotateRight 7
  (a, b, c, d)

def blakeRound (s : Blake) (m : List (BitVec 32)) : Blake :=
  let w := fun i => m.getD i 0
  let (a0, b0, c0, d0) := blakeG s.a0 s.b0 s.c0 s.d0 (w 0) (w 1)
  let (a1, b1, c1, d1) := blakeG s.a1 s.b1 s.c1 s.d1 (w 2) (w 3)
  let (a2, b2, c2, d2) := blakeG s.a2 s.b2 s.c2 s.d2 (w 4) (w 5)
  let (a3, b3, c3, d3) := blakeG s.a3 s.b3 s.c3 s.d3 (w 6) (w 7)
  let (a0, b1, c2, d3) := blakeG a0 b1 c2 d3 (w 8) (w 9)
  let (a1, b2, c3, d0) := blakeG a1 b2 c3 d0 (w 10) (w 11)
  let (a2, b3, c0, d1) := blakeG a2 b3 c0 d1 (w 12) (w 13)
  let (a3, b0, c1, d2) := blakeG a3 b0 c1 d2 (w 14) (w 15)
  { a0 := a0, a1 := a1, a2 := a2, a3 := a3, b0 := b0, b1 := b1, b2 := b2, b3 := b3,
    c0 := c0, c1 := c1, c2 := c2, c3 := c3, d0 := d0, d1 := d1, d2 := d2, d3 := d3 }

/-- BLAKE3's message permutation. -/
def blakePerm (m : List (BitVec 32)) : List (BitVec 32) :=
  [2, 6, 3, 10, 7, 0, 4, 13, 1, 11, 12, 5, 9, 14, 15, 8].map (fun i => m.getD i 0)

def blakeRounds : Nat → Blake → List (BitVec 32) → Blake
  | 0, s, _ => s
  | n + 1, s, m => blakeRounds n (blakeRound s m) (blakePerm m)

/-- The chaining value that a BLAKE3 compression leaves. -/
def blakeCompress (cv block : List (BitVec 32)) (counter len flags : Nat) : List (BitVec 32) :=
  let v := fun i => cv.getD i 0
  let s := blakeRounds 7
    { a0 := v 0, a1 := v 1, a2 := v 2, a3 := v 3, b0 := v 4, b1 := v 5, b2 := v 6, b3 := v 7,
      c0 := blakeIv 0, c1 := blakeIv 1, c2 := blakeIv 2, c3 := blakeIv 3,
      d0 := BitVec.ofNat 32 counter, d1 := BitVec.ofNat 32 (counter / 2 ^ 32), d2 := BitVec.ofNat 32 len,
      d3 := BitVec.ofNat 32 flags } block
  [s.a0 ^^^ s.c0, s.a1 ^^^ s.c1, s.a2 ^^^ s.c2, s.a3 ^^^ s.c3, s.b0 ^^^ s.d0, s.b1 ^^^ s.d1, s.b2 ^^^ s.d2, s.b3 ^^^ s.d3]

def blakeKey : List (BitVec 32) := (List.range 8).map blakeIv

/-- A run cut into pieces of `n` bytes; `fuel` bounds the number of pieces. -/
def piecesLoop (n : Nat) : Nat → List Byte → List (List Byte)
  | 0, _ => []
  | f + 1, bs => if bs.isEmpty then [] else bs.take n :: piecesLoop n f (bs.drop n)

def pieces (n : Nat) (bs : List Byte) : List (List Byte) := piecesLoop n (bs.length / n + 1) bs

def blakeWords (bs : List Byte) : List (BitVec 32) :=
  (List.range 16).map (fun i => BitVec.ofNat 32 (leAt bs (4 * i) 4))

/-- The chaining value of a BLAKE3 chunk of up to 1,024 bytes. -/
def blakeChunk (bs : List Byte) (counter root : Nat) : List (BitVec 32) :=
  let blocks := if bs.isEmpty then [[]] else pieces 64 bs
  let last := blocks.length - 1
  (blocks.zipIdx.foldl (fun cv p =>
    blakeCompress cv (blakeWords p.1) counter p.1.length
      ((if p.2 == 0 then 1 else 0) + (if p.2 == last then 2 + root else 0))) blakeKey)

/-- One level of BLAKE3's tree: neighbours joined, an odd last node carried up. -/
def blakeLevel (root : Nat) : List (List (BitVec 32)) → List (List (BitVec 32))
  | a :: b :: rest => blakeCompress blakeKey (a ++ b) 0 64 (4 + root) :: blakeLevel root rest
  | xs => xs

def blakeTree : Nat → List (List (BitVec 32)) → List (BitVec 32)
  | 0, xs => xs.headD []
  | n + 1, xs => if xs.length ≤ 1 then xs.headD [] else blakeTree n (blakeLevel (if xs.length == 2 then 8 else 0) xs)

/-- BLAKE3 in hash mode with 32 bytes of output (11 R306). -/
def blake3 (bs : List Byte) : List Byte :=
  let chunks := pieces 1024 bs
  let cv := if chunks.length ≤ 1 then blakeChunk bs 0 8
            else blakeTree (chunks.length + 1) (chunks.zipIdx.map (fun p => blakeChunk p.1 p.2 0))
  cv.flatMap (fun w => leBytes w.toNat 4)

/-- Integer cube root by `n` bits. -/
def icbrtLoop : Nat → Nat → Nat → Nat
  | 0, r, _ => r
  | n + 1, r, x => if (r + 2 ^ n) ^ 3 ≤ x then icbrtLoop n (r + 2 ^ n) x else icbrtLoop n r x

/-- SHA-512's eighty round constants: 64 bits of the fractions of the cube roots of the first primes. -/
def shaK : List (BitVec 64) := (primesBelow 410).map (fun p => BitVec.ofNat 64 (icbrtLoop 70 0 (p * 2 ^ 192)))

def shaIv : List (BitVec 64) :=
  [2, 3, 5, 7, 11, 13, 17, 19].map (fun p => BitVec.ofNat 64 (isqrt (p * 2 ^ 128)))

/-- The message schedule, newest word first. -/
def shaSchedule : Nat → List (BitVec 64) → List (BitVec 64)
  | 0, ws => ws.reverse
  | n + 1, ws =>
    let w := fun i => ws.getD (i - 1) 0
    let s0 := (w 15).rotateRight 1 ^^^ (w 15).rotateRight 8 ^^^ ((w 15) >>> 7)
    let s1 := (w 2).rotateRight 19 ^^^ (w 2).rotateRight 61 ^^^ ((w 2) >>> 6)
    shaSchedule n ((w 16 + s0 + w 7 + s1) :: ws)

def shaRounds : List (BitVec 64 × BitVec 64) → List (BitVec 64) → List (BitVec 64)
  | [], h => h
  | (k, w) :: rest, h =>
    let v := fun i => h.getD i 0
    let s1 := (v 4).rotateRight 14 ^^^ (v 4).rotateRight 18 ^^^ (v 4).rotateRight 41
    let ch := (v 4 &&& v 5) ^^^ (~~~(v 4) &&& v 6)
    let t1 := v 7 + s1 + ch + k + w
    let s0 := (v 0).rotateRight 28 ^^^ (v 0).rotateRight 34 ^^^ (v 0).rotateRight 39
    let mj := (v 0 &&& v 1) ^^^ (v 0 &&& v 2) ^^^ (v 1 &&& v 2)
    shaRounds rest [t1 + s0 + mj, v 0, v 1, v 2, v 3 + t1, v 4, v 5, v 6]

def shaBlock (h : List (BitVec 64)) (block : List Byte) : List (BitVec 64) :=
  let w := (List.range 16).map (fun i => BitVec.ofNat 64 (leNat ((slice block (8 * i) 8).reverse)))
  let ws := shaSchedule 64 w.reverse
  List.zipWith (· + ·) h (shaRounds (shaK.zip ws) h)

/-- SHA-512, on which Ed25519 rests. -/
def sha512 (bs : List Byte) : List Byte :=
  let padded := bs ++ [0x80] ++ zeros ((240 - (bs.length + 1) % 128) % 128) ++ (leBytes (8 * bs.length) 16).reverse
  ((pieces 128 padded).foldl shaBlock shaIv).flatMap (fun w => (leBytes w.toNat 8).reverse)

def edP : Nat := 2 ^ 255 - 19
def edL : Nat := 2 ^ 252 + 27742317777372353535851937790883648493

/-- Modular power by squaring, `n` bits of the exponent. -/
def powLoop (m : Nat) : Nat → Nat → Nat → Nat → Nat
  | 0, _, _, r => r
  | n + 1, b, e, r => powLoop m n (b * b % m) (e / 2) (if e % 2 == 1 then r * b % m else r)

def edPow (b e : Nat) : Nat := powLoop edP 256 (b % edP) e 1
def edInv (a : Nat) : Nat := edPow a (edP - 2)
def edD : Nat := (edP - 121665) * edInv 121666 % edP

/-- A point in extended coordinates (X, Y, Z, T). -/
structure EdPoint where
  x : Nat
  y : Nat
  z : Nat
  t : Nat
deriving DecidableEq, Repr

def edZero : EdPoint := { x := 0, y := 1, z := 1, t := 0 }

def edAdd (p q : EdPoint) : EdPoint :=
  let a := (p.y + edP - p.x) * (q.y + edP - q.x) % edP
  let b := (p.y + p.x) * (q.y + q.x) % edP
  let c := 2 * p.t * q.t % edP * edD % edP
  let d := 2 * p.z * q.z % edP
  let e := (b + edP - a) % edP
  let f := (d + edP - c) % edP
  let g := (d + c) % edP
  let h := (b + a) % edP
  { x := e * f % edP, y := g * h % edP, z := f * g % edP, t := e * h % edP }

/-- Scalar multiplication, `n` bits. -/
def edMulLoop : Nat → Nat → EdPoint → EdPoint → EdPoint
  | 0, _, _, r => r
  | n + 1, k, p, r => edMulLoop n (k / 2) (edAdd p p) (if k % 2 == 1 then edAdd r p else r)

def edMul (k : Nat) (p : EdPoint) : EdPoint := edMulLoop 512 k p edZero

/-- Recover x from y and its sign bit (RFC 8032, 5.1.3). -/
def edRecover (y sign : Nat) : Option EdPoint :=
  if edP ≤ y then none
  else
    let u := (y * y + edP - 1) % edP
    let v := (edD * (y * y % edP) + 1) % edP
    let v3 := v * v % edP * v % edP
    let v7 := v3 * v3 % edP * v % edP
    let c := u * v3 % edP * edPow (u * v7 % edP) ((edP - 5) / 8) % edP
    let x0 := if v * (c * c % edP) % edP == u then some c
              else if v * (c * c % edP) % edP == (edP - u) % edP then some (c * edPow 2 ((edP - 1) / 4) % edP)
              else none
    match x0 with
    | none => none
    | some x =>
      if x == 0 && sign == 1 then none
      else
        let x := if x % 2 == sign then x else (edP - x) % edP
        some { x := x, y := y, z := 1, t := x * y % edP }

/-- Decode a 32-byte point (RFC 8032, 5.1.3). -/
def edDecode (bs : List Byte) : Option EdPoint :=
  if bs.length != 32 then none else let v := leNat bs; edRecover (v % 2 ^ 255) (v / 2 ^ 255)

def edSame (p q : EdPoint) : Bool := p.x * q.z % edP == q.x * p.z % edP && p.y * q.z % edP == q.y * p.z % edP

def edBase : EdPoint := (edRecover (4 * edInv 5 % edP) 0).getD edZero

/-- Ed25519 verification (RFC 8032, 5.1.7, the equation with the cofactor 8). -/
def edVerify (key msg sig : List Byte) : Bool :=
  match edDecode key, edDecode (slice sig 0 32) with
  | some a, some r =>
    let s := leAt sig 32 32
    if s ≥ edL then false
    else
      let k := leNat (sha512 (slice sig 0 32 ++ key ++ msg)) % edL
      edSame (edMul (8 * s) edBase) (edAdd (edMul 8 r) (edMul (8 * k) a))
  | _, _ => false

/-- A committed service key: a valid point that is neither all zero nor all ones (16 R422). -/
def keyValid (key : List Byte) : Bool :=
  (edDecode key).isSome && !key.all (· == 0) && !key.all (· == 0xff)

end Sys2Proof.Machine
end

