-- ==== Sys2Proof/Machine/StripeMap.lean ====
section
/-!
DEFINITION. The stripe map: its layout, its ten checks (03 R87-R95), and what an engine reads out of its committed map.
-/

namespace Sys2Proof.Machine

open Sys2Proof

def StripeMap.geo (m : StripeMap) : Geo := { k := m.k, g := m.g, m := m.m }

def parseMember (w : Nat) : Member := { chip := bits w 31 19, tray := bits w 18 3, state := bits w 2 0 }

/-- The bytes of a set record: a word, n members, padding to 8 (03 R93). -/
def setRecordLen (n : Nat) : Nat := (4 + 4 * n + 7) / 8 * 8

/-- The fields of a map header that its body is read with. -/
structure MapHeader where
  magic   : Nat
  format  : Nat
  jobId   : Nat
  gen     : Nat
  sets    : Nat
  spares  : Nat
  k       : Nat
  g       : Nat
  m       : Nat
  n       : Nat
  windows : Nat
  rsvd    : Nat
  digest  : List Byte
deriving DecidableEq, Repr

/-- The 64-byte header, one little-endian integer (03 R93, 00 R432). -/
def parseHeader (bs : List Byte) : MapHeader :=
  let h := leAt bs 0 64
  { magic := bits h 511 480, format := bits h 479 464, jobId := bits h 463 448, gen := bits h 447 432,
    sets := bits h 431 416, spares := bits h 415 400, k := bits h 399 392, g := bits h 391 384, m := bits h 383 376,
    n := bits h 375 368, windows := bits h 367 360, rsvd := bits h 359 256, digest := slice bs 0 32 }

def MapHeader.length (h : MapHeader) : Nat := 64 + h.sets * setRecordLen h.n + 4 * h.spares + 32 * h.windows

/-- The members of a set record at a byte offset. -/
def parseMembers (bs : List Byte) (n : Nat) : List Member :=
  (List.range n).map (fun i => parseMember (leAt bs (4 * i) 4))

/-- The set records, with whether their reserved bits and padding are zero. -/
def parseSets (n : Nat) : Nat → List Byte → List (CodingSet × Bool)
  | 0, _ => []
  | c + 1, bs =>
    let w := leAt bs 0 4
    let pad := slice bs (4 + 4 * n) (setRecordLen n - 4 - 4 * n)
    ({ id := w % 65536, members := parseMembers (bs.drop 4) n }, w / 65536 == 0 && pad.all (· == 0)) ::
      parseSets n c (bs.drop (setRecordLen n))

/-- A window record, with whether its reserved bits are zero. -/
def parseWindow (w : Nat) : Window × Bool :=
  ({ engine := bits w 255 252, number := bits w 251 248, cls := bits w 247 246, base := bits w 239 208,
     length := bits w 207 176, ledger := bits w 175 144, mask := bits w 143 120, presence := bits w 119 96 },
   bits w 245 240 == 0 && bits w 95 0 == 0)

/-- A map parsed by its header, with whether its set records are clean and its windows' reserved bits are zero. -/
def parseMap (bs : List Byte) : StripeMap × Bool × List Bool :=
  let h := parseHeader bs
  let sets := parseSets h.n h.sets (bs.drop 64)
  let afterSets := bs.drop (64 + h.sets * setRecordLen h.n)
  let wins := (List.range h.windows).map (fun i => parseWindow (leAt (afterSets.drop (4 * h.spares + 32 * i)) 0 32))
  ({ jobId := BitVec.ofNat 16 h.jobId, gen := BitVec.ofNat 16 h.gen, k := h.k, g := h.g, m := h.m, n := h.n,
     sets := sets.map (·.1), spares := parseMembers afterSets h.spares, windows := wins.map (·.1) },
   sets.all (·.2), wins.map (·.2))

/-! ## Ranges -/

/-- Bytes of a window's regions in the stack: panes and ledger of a hot window, mask words and presence bits of any
(03 R92, R96, R98, R99). -/
def Window.ranges (w : Window) : List (Nat × Nat) :=
  (if w.number < 8 then [(w.base * 4096, w.length * 4096), (w.ledger * 4096, 8 * w.length)] else []) ++
  [(w.mask * 4096, 8 * w.length), (w.presence * 4096, (w.length + 7) / 8)]

def overlap (a b : Nat × Nat) : Bool := a.2 != 0 && b.2 != 0 && a.1 < b.1 + b.2 && b.1 < a.1 + a.2

/-- No two ranges of a list meet. -/
def disjoint : List (Nat × Nat) → Bool
  | [] => true
  | r :: rs => rs.all (fun q => !overlap r q) && disjoint rs

def insideStack (r : Nat × Nat) : Bool := r.1 + r.2 ≤ stackBytes

/-- Bytes of the board tier (01 R47). -/
def tierSize (s : State) : Nat := s.tierLimit + 1 - s.tierBase

/-- The size and placement conditions of 03 R92. -/
def windowsFit (s : State) (ws : List Window) : Bool :=
  let hot := ws.filter (·.number < 8)
  let sum := fun l : List Window => l.foldl (fun n w => n + w.length) 0
  sum hot ≤ 134217728 &&
  (List.range 12).all (fun e =>
    let mine := ws.filter (·.engine == e)
    let rs := mine.flatMap Window.ranges
    sum (mine.filter (·.number < 8)) ≤ 12582912 && rs.all insideStack && disjoint rs) &&
  (ws.filter (8 ≤ ·.number)).all (fun w =>
    (w.base + w.length) * 4096 ≤ tierSize s && w.ledger * 4096 + 8 * w.length ≤ tierSize s)

def windowOk (w : Window) (clean : Bool) : Bool :=
  w.engine ≤ 11 && w.length != 0 && clean && (if w.number < 8 then w.cls ≤ 1 else w.cls == 2)

def noRepeats (l : List Nat) : Bool :=
  match l with
  | [] => true
  | x :: xs => !xs.contains x && noRepeats xs

/-- Strictly ascending. -/
def ascending : List Nat → Bool
  | a :: b :: rest => a < b && ascending (b :: rest)
  | _ => true

/-- The TRAY_ID that counts for a member: an enrolled spare's is its spare entry's (03 R94, 09 R248), and its member entry's where no
spare entry names the chip (notes/assumptions/65.md, DESIGN CHOICE). -/
def trayOf (m : StripeMap) (x : Member) : Nat :=
  if x.state == 1 then ((m.spares.find? (fun p => p.chip == x.chip)).map (·.tray)).getD x.tray else x.tray

def StripeMap.members (m : StripeMap) : List Member := m.sets.flatMap (·.members)

/-- 03 R87: who may appear twice. -/
def chipsOk (m : StripeMap) : Bool :=
  let ids := m.members.map (·.chip)
  noRepeats ids && noRepeats (m.spares.map (·.chip)) &&
  m.spares.all (fun p => !ids.contains p.chip || p.state == 5)

/-- The number of distinct chips a map names. -/
def chipCount (m : StripeMap) : Nat :=
  m.members.length + (m.spares.filter (fun p => !(m.members.map (·.chip)).contains p.chip)).length

/-- The number of the first failed check of 03 R94 for a map received by broadcast (`staged` clear) or through
*MAP_STAGE*; 0 where all pass. Positions other than `e` that are not present are absent (01 R55). -/
def mapCheck (s : State) (e : EngineId) (staged : Bool) (bs : List Byte) : Nat × StripeMap :=
  let h := parseHeader bs
  let (m, clean, wclean) := parseMap bs
  let own := s.group.lc.chipId
  let n :=
    if h.magic != 0x435a534d || h.format != 1 || h.rsvd != 0 || h.windows == 0 || 192 < h.windows
        || bs.length != h.length then 1
    else if blake3 (bs.drop 64) != h.digest then 2
    else if !(m.geo.ok h.n) then 3
    else if isSix s && 16 < h.k then 4
    else if h.sets == 0 || !ascending (m.sets.map (·.id)) || 8192 < chipCount m || !chipsOk m || !clean
        || !((m.members ++ m.spares).map (·.chip)).contains own then 5
    else if !m.sets.all (fun t => noRepeats ((t.members.filter (·.state ≤ 1)).map (trayOf m))) then 6
    else if !(m.members.all (fun x => x.state ≤ (if staged then 2 else 1))
        && m.spares.all (fun x => x.state == 4 || x.state == 5)) then 7
    else if !((m.windows.zip wclean).all (fun p => windowOk p.1 p.2)
        && noRepeats (m.windows.map (fun w => 16 * w.engine + w.number))) then 8
    else if m.windows.any (fun w => w.number < 8 && w.engine != e.val && !present s (engineOf w.engine)) then 9
    else if !windowsFit s m.windows then 10
    else 0
  (n, m)

/-- What a later generation may not change (03 R95): everything but CHIP_ID and STATE of members, STATE of spares. -/
def sameJobMap (a b : StripeMap) : Bool :=
  a.jobId == b.jobId && a.k == b.k && a.g == b.g && a.m == b.m && a.n == b.n && a.windows == b.windows
  && a.sets.map (·.id) == b.sets.map (·.id)
  && a.sets.map (fun t => t.members.map (·.tray)) == b.sets.map (fun t => t.members.map (·.tray))
  && a.spares.map (fun x => (x.chip, x.tray)) == b.spares.map (fun x => (x.chip, x.tray))

/-! ## What an engine reads out of its committed map -/

def mapOf (s : State) (e : EngineId) : Option StripeMap := (s.eng e).job.job.map (·.map)

/-- The geometry in force: the committed one, or the default while no job is armed (04 R111). -/
def geo (s : State) (e : EngineId) : Geo := match mapOf s e with | none => Geo.default | some m => m.geo

/-- The set of which a chip is a member and its slot; a member in STATE 2 is lost. -/
def StripeMap.place (m : StripeMap) (chip : Nat) : Option (CodingSet × Nat) :=
  m.sets.findSome? (fun t => (t.members.findIdx? (fun x => x.chip == chip && x.state != 2)).map (fun i => (t, i)))

/-- This member's coding set. -/
def mySet (s : State) (e : EngineId) : Option CodingSet :=
  (mapOf s e).bind (fun m => (m.place s.group.lc.chipId).map (·.1))

/-- This member's slot; none on a spare that is not enrolled. -/
def mySlot (s : State) (e : EngineId) : Option Nat :=
  if (s.eng e).job.memberSlot == 0xff then none else some (s.eng e).job.memberSlot

/-- The member of a slot of this engine's set. -/
def memberAt (s : State) (e : EngineId) (slot : Nat) : Option Member :=
  (mySet s e).bind (fun t => t.members[slot]?)

/-- The record of a window of this engine. -/
def windowRec (s : State) (e : EngineId) (w : Nat) : Option Window :=
  (mapOf s e).bind (fun m => m.windows.find? (fun x => x.engine == e.val && x.number == w))

def myWindows (s : State) (e : EngineId) : List Window :=
  ((mapOf s e).map (fun m => m.windows.filter (fun x => x.engine == e.val))).getD []

/-- The column this member holds in a row (03 R90). -/
def myColumn (s : State) (e : EngineId) (row : Nat) : Option Nat :=
  (mySlot s e).map (fun sl => (geo s e).columnOf row sl)

/-- The window of a row's pane, by byte address in the stack. -/
def windowAt (s : State) (e : EngineId) (addr : Nat) : Option (Window × Nat) :=
  (myWindows s e).findSome? (fun w =>
    if w.number < 8 && w.base ≤ addr / 4096 && addr / 4096 < w.base + w.length then some (w, addr / 4096 - w.base)
    else none)

/-- A byte range of the stack reaches a coded window. -/
def touchesWindow (s : State) (e : EngineId) (a n : Nat) : Bool :=
  (myWindows s e).any (fun w => w.number < 8 && overlap (a, n) (w.base * 4096, w.length * 4096))

end Sys2Proof.Machine
end

