-- ==== Sys2Proof/Machine/Operands.lean ====
section
/-!
DEFINITION. Every operand form of the instructions: the descriptor table and its walkers, pass descriptors and
coefficient sets (04 R110-R122), and the fields of the instruction words (12).
-/

namespace Sys2Proof

/-! ## Instruction fields -/

/-- The instruction whose word 0 is `w0` (12 R333). -/
def parseInstr (w0 w1 w2 w3 : BitVec 64) : RawInstr :=
  let w := w0.toNat
  { opcode := BitVec.ofNat 8 w
    body := { tag := BitVec.ofNat 24 (bits w 63 40), target := BitVec.ofNat 4 (bits w 39 36),
              cntMode := BitVec.ofNat 2 (bits w 35 34), counter := BitVec.ofNat 10 (bits w 33 24),
              rsvd := BitVec.ofNat 3 (bits w 23 21), nonExact := bit w 20, priority := BitVec.ofNat 2 (bits w 19 18),
              chunkSignal := bit w 17, fenceAfter := bit w 16, fenceBefore := bit w 15, relocatable := bit w 14,
              stream := BitVec.ofNat 6 (bits w 13 8), w1 := w1, w2 := w2, w3 := w3 } }

/-- Bits of words 1 to 3. -/
def RawInstr.f1 (i : RawInstr) (hi lo : Nat) : Nat := bits i.body.w1.toNat hi lo
def RawInstr.f2 (i : RawInstr) (hi lo : Nat) : Nat := bits i.body.w2.toNat hi lo
def RawInstr.f3 (i : RawInstr) (hi lo : Nat) : Nat := bits i.body.w3.toNat hi lo
def RawInstr.op (i : RawInstr) : Nat := i.opcode.toNat
def RawInstr.stream (i : RawInstr) : Nat := i.body.stream.toNat
def RawInstr.panes (i : RawInstr) : Nat := i.f2 19 0
def RawInstr.firstRow (i : RawInstr) : Nat := i.f2 63 36
def RawInstr.rowStep (i : RawInstr) : Nat := if i.f2 35 20 == 0 then 1 else i.f2 35 20
def RawInstr.window (i : RawInstr) : Nat := i.f3 63 60

end Sys2Proof

namespace Sys2Proof.Machine

open Sys2Proof

/-! ## The descriptor table -/

/-- The 64-byte entry `i` of the descriptor table; none at or beyond *DESC_COUNT* (04 R115). -/
def descEntry (s : State) (e : EngineId) (i : Nat) : Option (List Byte) :=
  if i < reg s e regDescCount then some (hbm s e (reg s e regDescBase * 4096 + 64 * i) 64) else none

/-- `n` consecutive entries as one byte run. -/
def descEntries (s : State) (e : EngineId) (i n : Nat) : Option (List Byte) :=
  if i + n ≤ reg s e regDescCount then some (hbm s e (reg s e regDescBase * 4096 + 64 * i) (64 * n)) else none

/-- Every granule of `n` entries can be read. -/
def descReadable (s : State) (e : EngineId) (i n : Nat) : Bool :=
  readable s e (reg s e regDescBase * 4096 + 64 * i) (64 * n)

/-- A walker descriptor; none where it breaks 04 R122. -/
def parseWalk (bs : List Byte) : Option Walk :=
  let d := leNat bs
  let dims := bits d 471 469
  if dims == 0 || 5 < dims || 6 < bits d 468 464 || bits d 475 472 != 0 || bits d 463 448 != 0 || bits d 47 0 != 0 then none
  else
    some { base := bits d 511 476, elog := bits d 468 464
           dims := (List.range dims).map (fun i =>
             let t := 447 - 80 * i
             (bits d t (t - 23), signed (bits d (t - 24) (t - 55)) 32, bits d (t - 56) (t - 71),
              if bits d (t - 72) (t - 79) == 0 then 1 else bits d (t - 72) (t - 79))) }

def walker (s : State) (e : EngineId) (i : Nat) : Option Walk := (descEntry s e i).bind parseWalk

/-- Elements of a walk. -/
def Walk.count (w : Walk) : Nat := w.dims.foldl (fun n d => n * d.1) 1

/-- Bytes of a walk. -/
def Walk.bytes (w : Walk) : Nat := w.count * 2 ^ w.elog

/-- The sum over dimensions of (offset + index · dilation) · stride for element `i`, dimension 0 innermost. -/
def walkSum : List (Nat × Int × Nat × Nat) → Nat → Int
  | [], _ => 0
  | (c, stride, off, dil) :: rest, i => ((off + i % c * dil : Nat) : Int) * stride + walkSum rest (i / c)

/-- The byte address of element `i` of a walk (04 R122). -/
def Walk.addr (w : Walk) (i : Nat) : Int := (w.base : Int) + 2 ^ w.elog * walkSum w.dims i

/-- The elements of pane-row `j`: address of each, ascending. -/
def Walk.rowElems (w : Walk) (j : Nat) : List Int :=
  let per := 4096 / 2 ^ w.elog
  let first := j * per
  (List.range (min per (w.count - first))).map (fun i => w.addr (first + i))

/-- The walk covers `panes` pane-rows, the last partial one counting as whole (04 R122). -/
def Walk.covers (w : Walk) (panes : Nat) : Bool := panes ≤ (w.bytes + 4095) / 4096

def elemInside (w : Walk) (a : Int) : Bool := 0 ≤ a && a + 2 ^ w.elog ≤ (stackBytes : Int)

/-- Every element of a pane-row lies in the stack. -/
def Walk.rowInside (w : Walk) (j : Nat) : Bool := (w.rowElems j).all (elemInside w)

/-- Write a pane-row through an output walk: only the walked bytes (04 R122). -/
def writeWalk (s : State) (e : EngineId) (w : Walk) (j : Nat) (content : List Byte) : State :=
  (w.rowElems j).zipIdx.foldl (fun s p =>
    if elemInside w p.1 then setHbm s e p.1.toNat (slice content (p.2 * 2 ^ w.elog) (2 ^ w.elog)) else s) s

/-- Some element of the walk's first `panes` pane-rows reaches a coded window (04 R118). -/
def walkRowTouches (s : State) (e : EngineId) (w : Walk) (j : Nat) : Bool :=
  (w.rowElems j).any (fun a => elemInside w a && touchesWindow s e a.toNat (2 ^ w.elog))

def walkTouches (s : State) (e : EngineId) (w : Walk) (panes : Nat) : Bool :=
  (List.range panes).any (walkRowTouches s e w)

/-- Add the bytes of an element to the granules already met: a granule that supplies several elements is one request (04 R119). -/
def joinGranule : List (Nat × BitVec 64) → Nat × BitVec 64 → List (Nat × BitVec 64)
  | [], p => [p]
  | x :: xs, p =>
    if x.1 == p.1 then (x.1, x.2 ||| p.2) :: xs
    else if xs.any (fun y => y.1 == p.1) then x :: xs.map (fun y => if y.1 == p.1 then (y.1, y.2 ||| p.2) else y)
    else p :: x :: xs

/-- The granules of a pane-row of a walk, each once, with the bytes that its elements cover. -/
def Walk.rowGranules (w : Walk) (j : Nat) : List (Nat × BitVec 64) :=
  let n := 2 ^ w.elog
  let parts := ((w.rowElems j).filter (elemInside w)).flatMap (fun a => (granulesOf a.toNat n).map (fun g => (g, byteMask g a.toNat n)))
  (parts.foldl joinGranule []).reverse

/-- The write requests of a pane-row of a walk (04 R119, R123). -/
def noteWrite (s : State) (e : EngineId) (cls : Nat) (op : Option Nat) (w : Walk) (j : Nat) : State :=
  noteReqs s e cls op true false (w.rowGranules j)

/-! ## Coefficient sets -/

def parseCoeff (v : Nat) : CoeffSet := { kind := bits v 47 44, outFirst := bits v 43 40, erased := bits v 39 0 }

/-- What 04 R114 makes of a coefficient set: a status that ends the pass before it streams, or none. -/
def coeffStatus (o : Geo) (c : CoeffSet) : Option Nat :=
  if 3 < c.kind || (c.kind ≤ 1 && c.erased != 0) || c.erased / 2 ^ o.n != 0 then some 0x60
  else if c.kind == 0 then none
  else if c.kind == 1 then (if o.n - o.k ≤ c.outFirst then some 0x01 else none)
  else if (survivors o c.erased).isNone then some 0x10
  else if (erasedCols o c.erased).length ≤ c.outFirst then some 0x01
  else none

/-- The column that output row `o` of a set produces; none beyond the last (04 R111). -/
def outColumn (g : Geo) (c : CoeffSet) (o : Nat) : Option Nat :=
  if c.kind == 1 then (if g.k + c.outFirst + o < g.n then some (g.k + c.outFirst + o) else none)
  else if c.kind == 2 then (erasedCols g c.erased)[c.outFirst + o]?
  else if c.kind == 3 && o == 0 then (erasedCols g c.erased)[c.outFirst]?
  else none

/-- The coefficients of output row `o`, by input column; a column beyond the list has 0 (04 R111). `own` is the column of input
binding 0, for CHAIN. -/
def coeffRow (g : Geo) (c : CoeffSet) (own o : Nat) : List Byte :=
  match outColumn g c o with
  | none => []
  | some out =>
    if c.kind == 1 then (List.range g.k).map (g.at out)
    else if c.kind == 2 then (decodeRow g c.erased out).getD []
    else
      [(match (survivors g c.erased).bind (fun l => l.findIdx? (· == own)) with
        | none => 0
        | some x => ((decodeRow g c.erased out).getD []).getD x 0), 1]

/-- The output of row `o`: the sum of its cells' products (04 R106). -/
def rowOutput (coeffs : List Byte) (ins : List (List Byte)) : List Byte :=
  (coeffs.zip ins).foldl (fun acc p => if p.1 == 0 then acc else xorBytes acc (gfScale p.1 p.2)) (zeros 4096)

/-! ## Pass descriptors -/

/-- A binding entry's fields (04 R115). -/
structure Binding where
  type   : Nat
  column : Nat
  window : Nat
  kind   : Nat
  walker : Nat
  queue  : Nat
  rsvd   : Bool
deriving DecidableEq, Repr

def parseBinding (w : Nat) : Binding :=
  { type := bits w 63 60, column := bits w 59 54, window := bits w 53 50, kind := bits w 49 44, walker := bits w 31 16,
    queue := bits w 15 8, rsvd := bits w 43 32 != 0 || bits w 7 0 != 0 }

/-- The 32 bindings of a pass descriptor. -/
def parsePass (bs : List Byte) : List Binding := (List.range 32).map (fun i => parseBinding (leAt bs (8 * i) 8))

/-- An input binding; none where its type or walker is invalid. -/
def inBinding (s : State) (e : EngineId) (panes : Nat) (b : Binding) : Option InBind :=
  if b.rsvd then none
  else match b.type with
    | 0 => some .zero
    | 1 => match walker s e b.walker with
      | some w => if w.covers panes then some (.mem w) else none
      | none => none
    | 2 => if b.queue < 64 then some (.stage b.queue) else none
    | _ => none

/-- An output binding; none where its type or walker is invalid. -/
def outBinding (s : State) (e : EngineId) (panes : Nat) (b : Binding) : Option OutBind :=
  let walk := match walker s e b.walker with
    | some w => if w.covers panes then some w else none
    | none => none
  if b.rsvd then none
  else match b.type with
    | 0 => some .discard
    | 1 => walk.map .mem
    | 2 => walk.map .xormem
    | 3 => if b.queue < 64 then some (.stage b.queue) else none
    | 4 => some (.fabric b.column b.window b.kind)
    | 5 => walk.map .compare
    | _ => none

end Sys2Proof.Machine
end

