-- ==== Sys2Proof/Machine/Rows.lean ====
section
/-!
DEFINITION. What a row of a window is made of on this member: its pane, ledger entry, mask word and presence bit, in the
stack for hot windows and in the board tier for cold panes and ledgers (03 R89-R105).
-/

namespace Sys2Proof.Machine

open Sys2Proof

/-- A ledger entry (03 R96). -/
structure Ledger where
  stepTag  : Nat
  version  : Nat
  column   : Nat
  degraded : Bool
  rebuilt  : Bool
  pending  : Bool
  there    : Bool
deriving DecidableEq, Repr

def Ledger.word (l : Ledger) : Nat :=
  put l.stepTag 32 32 + put l.version 16 16 + put l.column 6 10 + put (b2n l.degraded) 1 3 + put (b2n l.rebuilt) 1 2
  + put (b2n l.pending) 1 1 + put (b2n l.there) 1 0

def parseLedger (w : Nat) : Ledger :=
  { stepTag := bits w 63 32, version := bits w 31 16, column := bits w 15 10, degraded := bit w 3, rebuilt := bit w 2,
    pending := bit w 1, there := bit w 0 }

def Window.isHot (w : Window) : Bool := w.number < 8

/-- The tier as bytes from *TIER_HPA_BASE* on. -/
def tierRead (s : State) (a n : Nat) : List Byte := s.tier.read a n
def tierInside (s : State) (a n : Nat) : Bool := a + n ≤ tierSize s
def tierWrite (s : State) (a : Nat) (bs : List Byte) : State := { s with tier := s.tier.write a bs }

/-- Read bytes of a window's panes or ledger, wherever the window lies. -/
def winRead (s : State) (e : EngineId) (w : Window) (a n : Nat) : List Byte :=
  if w.isHot then hbm s e a n else tierRead s a n
def winWrite (s : State) (e : EngineId) (w : Window) (a : Nat) (bs : List Byte) : State :=
  if w.isHot then setHbm s e a bs else tierWrite s a bs

def Window.paneAt (w : Window) (row : Nat) : Nat := (w.base + row) * 4096
def Window.ledgerAt (w : Window) (row : Nat) : Nat := w.ledger * 4096 + 8 * row
def Window.maskAt (w : Window) (row : Nat) : Nat := w.mask * 4096 + 8 * row
def Window.bitAt (w : Window) (row : Nat) : Nat := w.presence * 4096 + row / 8

/-- The presence bit: the map in SRAM for a hot pane, the bitmap in the stack for a cold one (03 R99, R105). -/
def rowPresent (s : State) (e : EngineId) (w : Window) (row : Nat) : Bool :=
  if w.isHot then (s.eng e).mem.presence.contains (w.number, row)
  else bit (hbmNat s e (w.bitAt row) 1) (row % 8)

/-- Set bit `row` of an image or bitmap in the stack. -/
def setBit (s : State) (e : EngineId) (addr row : Nat) (v : Bool) : State :=
  let b := hbmNat s e addr 1
  setHbmNat s e addr (if v then (if bit b (row % 8) then b else b + 2 ^ (row % 8))
                      else (if bit b (row % 8) then b - 2 ^ (row % 8) else b)) 1

/-- Set the image bit, then the map bit (03 R102, steps 3 and 4). -/
def setPresent (s : State) (e : EngineId) (w : Window) (row : Nat) : State :=
  let s := setBit s e (w.bitAt row) row true
  if w.isHot then s.modMem e (fun m => if m.presence.contains (w.number, row) then m
                                       else { m with presence := (w.number, row) :: m.presence })
  else s

/-- The entry that a pane gets as it becomes present (03 R102, step 2). -/
def bornLedger (s : State) (e : EngineId) (row : Nat) : Ledger :=
  { stepTag := (s.eng e).job.committed, version := 0, column := (myColumn s e row).getD 63, degraded := false, rebuilt := false,
    pending := false, there := true }

/-- A row's ledger entry; that of an absent pane is never read, and counts as the one it will be born with (03 R97, R101, R102). -/
def ledgerOf (s : State) (e : EngineId) (w : Window) (row : Nat) : Ledger :=
  if rowPresent s e w row then parseLedger (leNat (winRead s e w (w.ledgerAt row) 8)) else bornLedger s e row
def setLedger (s : State) (e : EngineId) (w : Window) (row : Nat) (l : Ledger) : State :=
  winWrite s e w (w.ledgerAt row) (leBytes l.word 8)

/-- Rebuild a ledger granule whole where its stored data cannot be read: repair writes a new entry (01 R18, 03 R97). The
neighbours of an unreadable entry are written as entries of no column, and stay erasures by it. -/
def repairLedger (s : State) (e : EngineId) (w : Window) (row : Nat) (l : Ledger) : State :=
  let g := w.ledgerAt row / 64
  if w.isHot && granuleBad s e g then
    setHbm s e (64 * g) ((List.range 8).flatMap (fun i =>
      if 8 * i == w.ledgerAt row % 64 then leBytes l.word 8 else leBytes (put 0x3f 6 10 + 1) 8))
  else setLedger s e w row l

/-- A mask word: MASK_STEP and MASK (03 R98). -/
def maskWord (s : State) (e : EngineId) (w : Window) (row : Nat) : Nat × Nat :=
  let v := hbmNat s e (w.maskAt row) 8
  (bits v 63 32, bits v 23 0)

/-- The mask bits for a step; all clear when the word belongs to another (03 R98). -/
def maskFor (s : State) (e : EngineId) (w : Window) (row step : Nat) : Nat :=
  let m := maskWord s e w row
  if m.1 == step then m.2 else 0

def setMask (s : State) (e : EngineId) (w : Window) (row step mask : Nat) : State :=
  setHbmNat s e (w.maskAt row) (put step 32 32 + put mask 24 0) 8

/-- The bytes of this member's pane: zeros while it is absent (03 R101). -/
def rowBytes (s : State) (e : EngineId) (w : Window) (row : Nat) : List Byte :=
  if rowPresent s e w row then winRead s e w (w.paneAt row) 4096 else zeros 4096

/-- `n` bytes as the engine reads them: an absent pane of a coded window reads as zeros (03 R101). -/
def memBytes (s : State) (e : EngineId) (a n : Nat) : List Byte :=
  if touchesWindow s e a n then
    (hbm s e a n).zipIdx.map (fun p => match windowAt s e (a + p.2) with
      | some (w, r) => if rowPresent s e w r then p.1 else 0
      | none => p.1)
  else hbm s e a n

/-- A granule of a pane that is absent: it is zero without a read (03 R101). -/
def absentGranule (s : State) (e : EngineId) (g : Nat) : Bool :=
  match windowAt s e (64 * g) with
  | some (w, r) => !rowPresent s e w r
  | none => false

/-- The read requests of a pane-row of a walk: each granule once, and none of an absent pane (03 R101, 04 R119, R123). -/
def noteRead (s : State) (e : EngineId) (cls : Nat) (op : Option Nat) (w : Walk) (j : Nat) : State :=
  noteReqs s e cls op false false ((w.rowGranules j).filter (fun g => !absentGranule s e g.1))

/-- The column this member holds in a row, 63 where it has no slot. -/
def columnHere (s : State) (e : EngineId) (row : Nat) : Nat := (myColumn s e row).getD 63

/-- A present pane is an erasure: its content or its ledger cannot be read, the ledger names another column, or its content is
not trusted (01 R19, 03 R96, R97). -/
def rowErased (s : State) (e : EngineId) (w : Window) (row : Nat) : Bool :=
  rowPresent s e w row &&
  ((w.isHot && !(readable s e (w.paneAt row) 4096 && readable s e (w.ledgerAt row) 8))
   || (ledgerOf s e w row).column != columnHere s e row || (ledgerOf s e w row).degraded)

/-- The step a pane holds: an absent pane counts as holding every step's value (03 R101). -/
def rowStep (s : State) (e : EngineId) (w : Window) (row : Nat) : Nat := (ledgerOf s e w row).stepTag

/-- Make an absent pane present: zero bytes, a ledger entry, the image bit, the map bit, in that order (03 R102). -/
def makePresent (s : State) (e : EngineId) (w : Window) (row : Nat) : State :=
  if rowPresent s e w row then s
  else
    let s := winWrite s e w (w.paneAt row) (zeros 4096)
    let s := setLedger s e w row (bornLedger s e row)
    setPresent s e w row

/-- Whether this member holds data in a row. -/
def holdsData (s : State) (e : EngineId) (row : Nat) : Bool :=
  match myColumn s e row with
  | some c => (geo s e).isData c
  | none => false

/-- Whether this member holds parity in a row. -/
def holdsParity (s : State) (e : EngineId) (row : Nat) : Bool :=
  match myColumn s e row with
  | some c => !(geo s e).isData c
  | none => false

/-- The byte offset of a window's bits in the rebuild bitmap (09 R259). -/
def bitmapOffset (s : State) (e : EngineId) (w : Nat) : Nat :=
  ((myWindows s e).filter (·.number < w)).foldl (fun n x => n + ((x.length + 7) / 8 + 63) / 64 * 64) 0

/-- The byte that holds a row's rebuild bit (09 R259). -/
def rebuildAt (s : State) (e : EngineId) (w row : Nat) : Nat :=
  reg s e regRebuildMapBase * 4096 + bitmapOffset s e w + row / 8

def rebuildBit (s : State) (e : EngineId) (w row : Nat) : Bool := bit (hbmNat s e (rebuildAt s e w row) 1) (row % 8)
def setRebuildBit (s : State) (e : EngineId) (w row : Nat) : State := setBit s e (rebuildAt s e w row) row true

end Sys2Proof.Machine
end

