-- ==== Sys2Proof/Machine/TierPort.lean ====
section
/-!
DEFINITION. The tier port: transfers of an engine as requests of 64 B, their grants by class and round-robin, and their ends (01
R46-R48, 08 R231).
-/

namespace Sys2Proof.Machine

open Sys2Proof

/-! ## Grants (01 R47, 08 R231) -/

/-- A part of the transfer may be granted: none of what it follows is left. -/
def tierReady (reqs : List TierReq) (t : TierReq) : Bool :=
  !t.todo.isEmpty && (match t.after with
    | none => true
    | some a => !reqs.any (fun x => x.id == a && x.live))

/-- Requests outstanding of an engine, of the transfers that `f` selects. -/
def tierOut (reqs : List TierReq) (e : Nat) (f : TierReq → Bool) : Nat :=
  (reqs.filter (fun t => t.engine == e && f t)).foldl (fun n t => n + t.out.length) 0

/-- The order of grants of one engine: class, LAYER and operation, then age (08 R231). -/
def tierBefore (a b : TierReq) : Bool :=
  a.cls < b.cls || (a.cls == b.cls && (a.layer.1 < b.layer.1 || (a.layer.1 == b.layer.1
    && (a.layer.2 < b.layer.2 || (a.layer.2 == b.layer.2 && a.id < b.id)))))

def tierFirst : List TierReq → Option TierReq
  | [] => none
  | t :: ts => match tierFirst ts with
    | none => some t
    | some u => some (if tierBefore u t then u else t)

/-- Class 4 of an engine has work. -/
def hasBackground (reqs : List TierReq) (e : Nat) : Bool := reqs.any (fun t => t.engine == e && t.cls == 4 && tierReady reqs t)

/-- What an engine takes of the outstanding requests while class 4 keeps its share. -/
def tierCharge (reqs : List TierReq) (shares : List Nat) (e : Nat) : Nat :=
  let b := tierOut reqs e (fun t => t.cls == 4)
  tierOut reqs e (fun t => t.cls != 4) + (if hasBackground reqs e then max b (shares.getD e 0) else b)

/-- The requests taken of 1,024: each present engine's 64, or what it takes beyond them (01 R47). -/
def tierTotal (here : List Nat) (f : Nat → Nat) : Nat :=
  (List.range 12).foldl (fun n e => n + max (if here.contains e then 64 else 0) (f e)) 0

/-- The transfer of an engine whose next part is granted; none where it has no work or no room. -/
def tierPick (here shares : List Nat) (reqs : List TierReq) (e : Nat) : Option TierReq :=
  let mine := reqs.filter (fun t => t.engine == e && tierReady reqs t)
  let one := fun (x : Nat) => if x == e then 1 else 0
  let room := tierTotal here (fun x => tierOut reqs x (fun _ => true) + one x) ≤ 1024
  let free := tierTotal here (fun x => tierCharge reqs shares x + one x) ≤ 1024
  let kept := tierOut reqs e (fun t => t.cls == 4) < shares.getD e 0
  match tierFirst (mine.filter (·.cls != 4)) with
  | some t => if room && free then some t else if room && kept then tierFirst (mine.filter (·.cls == 4)) else none
  | none => if room && (kept || free) then tierFirst mine else none

/-- The next part of a transfer is outstanding. -/
def grantPart (reqs : List TierReq) (id : Nat) : List TierReq :=
  reqs.map (fun t => if t.id == id then { t with todo := t.todo.tail, out := t.out ++ t.todo.take 1 } else t)

/-- Grant part by part, the engines in turn. -/
def grantLoop (here shares : List Nat) : Nat → List TierReq → Nat → List TierReq × Nat
  | 0, reqs, turn => (reqs, turn)
  | n + 1, reqs, turn =>
    match ((List.range 12).map (fun i => (turn + i) % 12)).findSome? (fun e => (tierPick here shares reqs e).map (fun t => (e, t.id))) with
    | none => (reqs, turn)
    | some (e, id) => grantLoop here shares n (grantPart reqs id) ((e + 1) % 12)

/-- Everything that is ready fits into the requests reserved to its engine, so that all of it is granted. -/
def tierFits (here : List Nat) (reqs : List TierReq) : Bool :=
  (List.range 12).all (fun e =>
    let n := (reqs.filter (fun t => t.engine == e)).foldl (fun n t => n + t.out.length + (if tierReady reqs t then t.todo.length else 0)) 0
    n == 0 || (here.contains e && n ≤ 64))

/-- The group grants what it has room for (01 R47, 08 R231). -/
def tierGrant (s : State) : State :=
  let reqs := s.group.coord.tierReqs
  let here := (presentEngines s).map (·.val)
  if tierFits here reqs then
    s.modCoord (fun c => { c with tierReqs := reqs.map (fun t => if tierReady reqs t then { t with todo := [], out := t.out ++ t.todo } else t) })
  else
    let shares := allEngines.map (fun e => reg s e regTierBgShare)
    let r := grantLoop here shares 1024 reqs s.group.coord.tierTurn
    s.modCoord (fun c => { c with tierReqs := r.1, tierTurn := r.2 })

/-! ## Transfers -/

/-- Ask for some 64 B parts of a transfer (01 R46, R47). -/
def tierAskParts (s : State) (e : EngineId) (cls : Nat) (layer : Nat × Nat) (addr length : Nat) (bytes : List Byte) (write : Bool)
    (after : Option Nat) (cont : TierCont) (parts : List Nat) : State :=
  tierGrant (s.modCoord (fun c => { c with
    tierReqs := c.tierReqs ++ [{ id := c.tierNext, engine := e.val, addr := addr, length := length, bytes := bytes, write := write,
                                 cls := cls, layer := layer, after := after, todo := parts, out := [], lost := [], status := 0,
                                 cont := cont }]
    tierNext := c.tierNext + 1 }))

/-- Ask for a transfer. -/
def tierAsk (s : State) (e : EngineId) (cls : Nat) (layer : Nat × Nat) (addr length : Nat) (bytes : List Byte) (write : Bool)
    (after : Option Nat) (cont : TierCont) : State :=
  tierAskParts s e cls layer addr length bytes write after cont (List.range ((length + 63) / 64))

/-- A read of a byte range of the tier. -/
def tierFetch (s : State) (e : EngineId) (cls : Nat) (layer : Nat × Nat) (addr length : Nat) (cont : TierCont) : State :=
  tierAsk s e cls layer addr length [] false none cont

/-- A write of a byte range of the tier, once the transfer `after` has ended. -/
def tierStore (s : State) (e : EngineId) (cls : Nat) (layer : Nat × Nat) (addr : Nat) (bytes : List Byte) (after : Option Nat)
    (cont : TierCont) : State :=
  tierAsk s e cls layer addr bytes.length bytes true after cont

/-- A transfer of an engine whose purpose `p` selects has not ended. -/
def tierHas (s : State) (e : EngineId) (p : TierCont → Bool) : Bool :=
  s.group.coord.tierReqs.any (fun t => t.engine == e.val && t.live && p t.cont)

/-- The transfer and part that a request number names. -/
def tierPart (s : State) (request : Nat) : Option TierReq := s.group.coord.tierReqs.find? (fun t => t.id == request / 64)

/-- The address and length of a part. -/
def TierReq.partAt (t : TierReq) (p : Nat) : Nat × Nat := (t.addr + 64 * p, min 64 (t.length - 64 * p))

/-- A part has ended with a status: after the first that is not 0x00 no further part is asked for. -/
def TierReq.endPart (t : TierReq) (p status : Nat) (late : Bool) : TierReq :=
  { t with out := t.out.filter (· != p), lost := if late then t.lost ++ [p] else t.lost,
           todo := if status == 0 then t.todo else [], status := if t.status == 0 then status else t.status }

/-- Put a transfer back after one of its parts has ended; one that nothing is left of is gone. -/
def setTransfer (s : State) (t : TierReq) : State :=
  s.modCoord (fun c => { c with tierReqs := if t.live || !t.lost.isEmpty then c.tierReqs.map (fun x => if x.id == t.id then t else x)
                                            else c.tierReqs.filter (·.id != t.id) })

/-- The transfers that follow a transfer. -/
def tierFollowers (s : State) (id : Nat) : List TierReq := s.group.coord.tierReqs.filter (fun t => t.after == some id && t.live)

/-- Take a transfer out. -/
def dropTransfer (s : State) (id : Nat) : State := s.modCoord (fun c => { c with tierReqs := c.tierReqs.filter (·.id != id) })

end Sys2Proof.Machine
end

