-- ==== Sys2Proof/Machine/Issue.lean ====
section
/-!
DEFINITION. Issue, dispatch checks, operations in flight and their completion (01 R37-R42, R58, 12 R333-R342, R354-R355),
and the facets' queues with lending (04 R127-R133).
-/

namespace Sys2Proof.Machine

open Sys2Proof

/-! ## Opcodes -/

def opcodeKnown (n : Nat) : Bool :=
  [0x00, 0x01, 0x02, 0x08, 0x10, 0x11, 0x12, 0x13, 0x14, 0x15, 0x20, 0x21, 0x22, 0x23, 0x28, 0x30, 0x31, 0x32, 0x38,
   0x39, 0x3a, 0x40, 0x41, 0x48, 0x49, 0x4a].contains n

/-- Opcodes whose chunk unit is "-" (12 R335); DIGEST in mode TAPCLOSE has none either. -/
def hasUnit (i : RawInstr) : Bool :=
  opcodeKnown i.op && !([0x00, 0x01, 0x02, 0x20, 0x22, 0x28, 0x31, 0x32, 0x48, 0x4a].contains i.op) && !(i.op == 0x40 && i.f3 1 0 == 2)

/-- Opcodes of the prism array: they take a place in a facet's queue (04, "Passes"); DIGEST takes one too (R128). -/
def isArray (n : Nat) : Bool := [0x01, 0x10, 0x11, 0x12, 0x13, 0x14, 0x15, 0x40].contains n
def isRelocatable (n : Nat) : Bool := [0x10, 0x11, 0x12, 0x13, 0x14, 0x15, 0x40].contains n
def isLendable (n : Nat) : Bool := [0x10, 0x11, 0x15, 0x40].contains n

/-- Check 3 of 12 R342: what runs without an armed job. RESTORE is let through to the first row of its own table, which ends it with 0x60
(10 R299; notes/assumptions/59.md, DEDUCED). -/
def runsUnarmed (i : RawInstr) : Bool :=
  [0x00, 0x01, 0x02, 0x10, 0x11, 0x4a].contains i.op || (i.op == 0x08 && i.f3 1 0 == 0) || (i.op == 0x40 && i.f3 1 0 ≤ 1)

/-! ## Operations -/

def findOp (s : State) (e : EngineId) (id : Nat) : Option Op := (s.eng e).iss.ops.find? (·.id == id)

/-- Change one operation in flight. -/
def modOp (s : State) (e : EngineId) (id : Nat) (f : Op → Op) : State :=
  s.modIss e (fun q => { q with ops := q.ops.map (fun o => if o.id == id then f o else o) })

def setWork (s : State) (e : EngineId) (id : Nat) (w : Work) : State := modOp s e id (fun o => { o with work := w })
def addCause (s : State) (e : EngineId) (id status : Nat) : State :=
  modOp s e id (fun o => { o with causes := o.causes ++ [status] })

/-- End an operation's own work with a status; it completes once R337 holds. -/
def endWork (s : State) (e : EngineId) (id status : Nat) : State :=
  modOp s e id (fun o => { o with causes := if status == 0 then o.causes else o.causes ++ [status], work := .ended })

/-- One unit done: under chunk signalling the counter moves now (12 R340). -/
def unitDone (s : State) (e : EngineId) (id : Nat) : State :=
  match findOp s e id with
  | none => s
  | some o =>
    if o.ins.body.chunkSignal && hasUnit o.ins && o.units + 1 ≤ o.total then
      addArrival (modOp s e id (fun o => { o with units := o.units + 1 })) e o.ins.body.counter.toNat 1 false
    else s

/-- What an instruction's counter receives in all (12 R340). -/
def totalOf (i : RawInstr) (u : Nat) : Nat := if i.body.chunkSignal && hasUnit i then max u 1 else 1

/-- The OP_STATUS record of a completion (12 R355, 14 R376). `info` holds CHECK, INDEX and GRANULE in place. -/
def opRecord (s : State) (e : EngineId) (facet : Nat) (i : RawInstr) (status info : Nat) : State :=
  raiseFor s e facet evOpStatus (statusSeverity status) i.stream status i.body.tag.toNat (put i.op 8 88 + info)

/-- A record that an instruction causes: it carries the instruction's stream and tag (01 R44). -/
def raiseOn (s : State) (e : EngineId) (i : RawInstr) (code sev status args : Nat) : State :=
  raiseFor s e 0xf code sev i.stream status i.body.tag.toNat args

/-- The facet that runs an operation, for records about it; 0xF where none does. -/
def opFacet (o : Op) : Nat := match o.facet with | some p => p.2 | none => 0xf

/-- As `raiseOn`, for an operation in flight: the record names the facet that executes it (04 R130). -/
def raiseOp (s : State) (e : EngineId) (id : Nat) (code sev status args : Nat) : State :=
  match findOp s e id with
  | none => raise s e code sev args
  | some o => raiseFor s e (opFacet o) code sev o.ins.stream status o.ins.body.tag.toNat args

/-- A record about an operation where there is one, else about the engine. -/
def raiseMaybe (s : State) (e : EngineId) (op : Option Nat) (code sev args : Nat) : State :=
  match op with
  | some id => raiseOp s e id code sev 0 args
  | none => raise s e code sev args

/-- ARGS bits of a failed check of 12 R342 or 10 R283. -/
def checkInfo (n : Nat) : Nat := put n 8 80

/-- The effects of a completion: the last counter update, the counters and the record (01 R42, 12 R340, R355). -/
def publish (s : State) (e : EngineId) (facet : Nat) (i : RawInstr) (n status info : Nat) (raised : Bool) : State :=
  let s := addArrival s e i.body.counter.toNat n (isError status)
  let s := bump s e cntOpsCompleted 1
  if isError status then
    let s := bump s e cntOpsError 1
    if raised then s else opRecord s e facet i status info
  else s

/-- An instruction that ends at dispatch (12 R336, R342). -/
def endNow (s : State) (e : EngineId) (i : RawInstr) (u status check : Nat) : State :=
  publish s e 0xf i (totalOf i u) status (checkInfo check) false

/-- Auto-fill is on (04 R126). -/
def autofillOn (s : State) (e : EngineId) : Bool := reg s e regAutofillEnable == 1 && reg s e regFillGapMax != 0

/-- Put an operation in flight. -/
def launch (s : State) (e : EngineId) (i : RawInstr) (facet : Option (Nat × Nat)) (u : Nat) (w : Work) : State :=
  s.modIss e (fun q => { q with
    ops := q.ops ++ [{ id := q.nextId, ins := i, facet := facet, units := 0, total := totalOf i u, causes := [],
                       raised := false, info := 0, autofill := autofillOn s e, work := w }]
    nextId := q.nextId + 1 })

/-- The number that the operation launched next will bear. -/
def nextOp (s : State) (e : EngineId) : Nat := (s.eng e).iss.nextId

/-- The 40 most recently used decode matrices, keyed by ERASED; a solve is a miss, a local list needs none (04 R113). -/
def useMatrix (s : State) (e : EngineId) (mask : Nat) : State :=
  let hit := (s.eng e).iss.matrices.contains mask
  let s := s.modIss e (fun q => { q with matrices := (mask :: q.matrices.filter (· != mask)).take 40 })
  if hit || isLocalMask (geo s e) (erasedCols (geo s e) mask) then s else bump s e cntDecodeCacheMisses 1

/-! ## Facets -/

def facetOf (s : State) (e : EngineId) (f : Nat) : Facet := (s.eng e).iss.facets[f % 8]'(Nat.mod_lt _ (by decide))

def modFacet (s : State) (e : EngineId) (f : Nat) (g : Facet → Facet) : State :=
  s.modIss e (fun q => { q with
    facets := q.facets.set (f % 8) (g (q.facets[f % 8]'(Nat.mod_lt _ (by decide)))) (Nat.mod_lt _ (by decide)) })

def bytePar (c : Byte) : Bool := (List.range 8).foldl (fun p i => p != c.getLsbD i) false

/-- A register with an active and a shadow coefficient and their parities. -/
def cellWord (active shadow : Byte) : BitVec 18 :=
  BitVec.ofNat 18 (put (b2n (bytePar shadow)) 1 17 + put shadow.toNat 8 9 + put (b2n (bytePar active)) 1 8 + active.toNat)

def cellOf (x : Facet) (c : Nat) : BitVec 18 := AList.getD x.cells c 0
def cellActive (x : Facet) (c : Nat) : Byte := BitVec.ofNat 8 (cellOf x c).toNat

/-- ACTIVE_PAR disagrees with ACTIVE_COEFF. -/
def cellBad (x : Facet) (c : Nat) : Bool := (cellOf x c).getLsbD 8 != bytePar (cellActive x c)

/-- Fill all 192 registers, row by row, and swap: the filled coefficients are active, the earlier ones are in shadow. -/
def fillCells (x : Facet) (rows : List (List Byte)) : AList Nat (BitVec 18) :=
  (List.range 192).filterMap (fun c =>
    let w := cellWord ((rows.getD (c / 24) []).getD (c % 24) 0) (cellActive x c)
    if w == 0 then none else some (c, w))

/-- Facets that the fuses give each engine (15 R397). -/
def facetCount (s : State) : Nat := if isSix s then 6 else 8
def isFold (s : State) (e : EngineId) (f : Nat) : Bool := bit (reg s e regFoldFacets) f

/-- A facet that takes array work: present, neither fold nor isolated (04, "Arbitration and lending"). -/
def takesArray (s : State) (e : EngineId) (f : Nat) : Bool :=
  bit (facetMask s) f && !isFold s e f && !(facetOf s e f).isolated

/-- The first facet from `f` on, cyclically, that takes array work; `f` itself where there is none. -/
def searchFacet (s : State) (e : EngineId) (f : Nat) : Nat :=
  (((List.range (facetCount s)).map (fun i => (f + i) % facetCount s)).find? (takesArray s e)).getD f

def streamFacet (s : State) (e : EngineId) (stream : Nat) : Nat := regNth s e regStreamFacet stream

/-- The home facet of an array operation (04 R127). -/
def homeFacet (s : State) (e : EngineId) (stream : Nat) : Nat := searchFacet s e (streamFacet s e stream)

def queueDepth (s : State) (e : EngineId) (f : Nat) : Nat := (facetOf s e f).queue.length

/-- What an operation in flight still has to do. -/
def findWork (s : State) (e : EngineId) (id : Nat) : Work := ((findOp s e id).map (·.work)).getD .ended

def isFillRef (s : State) (r : OpRef) : Bool :=
  match findOp s (engineOf r.home) r.op with
  | some o => o.ins.op == 0x01
  | none => false

/-- Idle: nothing queued, FILL aside (04 R127). -/
def facetIdle (s : State) (e : EngineId) (f : Nat) : Bool := (facetOf s e f).queue.all (isFillRef s)

/-- The charge limit of a crossbar port and direction per window, in bytes (04 R131, R135). -/
def xbarLimit (s : State) (e : EngineId) : Nat := (s.eng e).iss.lendBudget * 512 * 1024 / 100
def xbarCharge (s : State) (e : Nat) (out : Bool) : Nat := AList.getD s.group.coord.xbar (e, out) 0

/-- budget_room of 04 R128: both ports are below their charge in the current window. -/
def budgetRoom (s : State) (a b : EngineId) : Bool :=
  xbarCharge s a.val true < xbarLimit s a && xbarCharge s a.val false < xbarLimit s a
  && xbarCharge s b.val true < xbarLimit s b && xbarCharge s b.val false < xbarLimit s b

/-- A relocation: the non-determinism counts (00 R5, 11 R332). -/
def noteRelocation (s : State) (e : EngineId) : State :=
  s.modLou e (fun l => { l with nondetRel := (l.nondetRel + 1) % 2 ^ 63 })

/-- Where R128 finds a place for an operation: its home queue, and whether budget_room refused it another, or an idle facet. -/
inductive Place where
  | home (denied : Bool)
  | near (facet : Nat)
  | lent (engine facet : Nat)
deriving DecidableEq, Repr

/-- The procedure of 04 R128. -/
def placement (s : State) (e : EngineId) (i : RawInstr) : Place :=
  let home := homeFacet s e i.stream
  if i.op == 0x01 || !i.body.relocatable || !isRelocatable i.op || queueDepth s e home < reg s e regSatThreshold then .home false
  else
    let near := ((List.range (facetCount s - 1)).map (fun k => (home + 1 + k) % facetCount s)).find?
      (fun f => takesArray s e f && facetIdle s e f)
    match (if reg s e regLendFacetEnable == 1 then near else none) with
    | some f => .near f
    | none =>
      if isLendable i.op && reg s e regLendEngineEnable == 1 then
        let cands := ((List.range 11).map (fun k => engineOf (e.val + 1 + k))).filter (present s)
        let free := cands.filterMap (fun b =>
          ((List.range (facetCount s)).find? (fun f => takesArray s b f && facetIdle s b f)).map (fun f => (b, f)))
        match free.find? (fun p => budgetRoom s e p.1) with
        | some (b, f) => .lent b.val f
        | none => .home (!free.isEmpty)
      else .home false

/-- The engine and facet of an operation's place, with what is counted. -/
def placeOp (s : State) (e : EngineId) (i : RawInstr) : State × Nat × Nat :=
  match placement s e i with
  | .home denied => (if denied then bump s e cntXbarBudgetDenied 1 else s, e.val, homeFacet s e i.stream)
  | .near f => (bump (noteRelocation s e) e cntLentFacet 1, e.val, f)
  | .lent b f => (bump (noteRelocation s e) e cntLentEngineOut 1, b, f)

/-- Its home queue is full, and no other place is found: the stream stalls (04 R128). -/
def placeFull (s : State) (e : EngineId) (i : RawInstr) : Bool :=
  isArray i.op && 8 ≤ queueDepth s e (homeFacet s e i.stream) && (match placement s e i with | .home _ => true | _ => false)

/-- The queued operation a facet takes next: highest PRIORITY, then oldest (04 R127). -/
def pickRef (s : State) (q : List OpRef) : Option OpRef :=
  let prio := fun r : OpRef => match findOp s (engineOf r.home) r.op with
    | some o => o.ins.body.priority.toNat
    | none => 0
  q.foldl (fun best r => match best with
    | none => some r
    | some b => if prio r > prio b then some r else some b) none

/-- Activity of a facet: active cell-cycles of what it streams (04 R124, R126). -/
def noteCells (s : State) (e : EngineId) (f n : Nat) : State :=
  modFacet s e f (fun x => { x with current := x.current + n, lastAct := n })

/-- A FILL streams for up to a window of 256 cycles more: the ZERO set, every cell active (04 R124, R125). -/
def streamFill (s : State) (e : EngineId) (f : Nat) (r : OpRef) : State :=
  match findOp s (engineOf r.home) r.op with
  | some o => match o.work with
    | .fill cycles =>
      let n := min 256 cycles
      if n == 0 then s
      else
        let s := modFacet s e f (fun x => { x with cells := fillCells x [], filled := some r, lfsr := x.lfsr + n })
        noteCells (setWork s (engineOf r.home) r.op (.fill (cycles - n))) e f (192 * n)
    | _ => s
  | none => s

/-- Start the next queued operation of a facet that streams none. -/
def startFacet (s : State) (e : EngineId) (f : Nat) : State :=
  let fc := facetOf s e f
  if fc.active.isSome || fc.inReset || fc.isolated then s
  else match pickRef s fc.queue with
    | none => s
    | some r => streamFill (modFacet s e f (fun x => { x with active := some r, filled := none, autofill := false })) e f r

/-- Take an operation out of a facet's queue and let the next one start. A facet whose last pass has ended streams FILL for a
while at that pass's activity, where auto-fill was on when the pass was dispatched (04 R126, R135). -/
def leaveFacet (s : State) (e : EngineId) (f : Nat) (r : OpRef) : State :=
  let gap := match findOp s (engineOf r.home) r.op with
    | some o => o.autofill
    | none => false
  let s := modFacet s e f (fun x =>
    let rest := x.queue.filter (· != r)
    { x with queue := rest, active := if x.active == some r then none else x.active,
             autofill := x.autofill || (gap && x.active == some r && rest.isEmpty && x.lastAct != 0) })
  startFacet s e f

/-- A FILL that streams on a facet ends when another pass arrives (04 R125). -/
def endFill (s : State) (e : EngineId) (f : Nat) : State :=
  match (facetOf s e f).active with
  | none => s
  | some r => if isFillRef s r then leaveFacet (setWork s (engineOf r.home) r.op .ended) e f r else s

/-- Queue an operation at a facet. -/
def joinFacet (s : State) (e : EngineId) (f : Nat) (r : OpRef) : State :=
  let s := endFill s e f
  let s := modFacet s e f (fun x => { x with queue := x.queue ++ [r] })
  let s := if reg s e regSatThreshold ≤ queueDepth s e f then bumpCycles s e cntFacetSatCycles f else s
  startFacet s e f

/-- Dispatch an array operation: R128 places it, and it joins that facet's queue. -/
def launchArray (s : State) (e : EngineId) (i : RawInstr) (u : Nat) (w : Work) : State :=
  let (s, b, f) := placeOp s e i
  let id := nextOp s e
  joinFacet (launch s e i (some (b, f)) u w) (engineOf b) f { home := e.val, op := id }

/-- An operation's streaming has ended: its facet is free for the next one. -/
def freeFacet (s : State) (e : EngineId) (id : Nat) : State :=
  match (findOp s e id).bind (·.facet) with
  | none => s
  | some (b, f) => leaveFacet s (engineOf b) f { home := e.val, op := id }

/-- End an array operation's work with a status. -/
def endPass (s : State) (e : EngineId) (id status : Nat) : State := freeFacet (endWork s e id status) e id

/-! ## Completion -/

/-- What an operation still waits for under 12 R337: panes on their way, requests, installs, fetches, tier requests. -/
def opBusy (s : State) (e : EngineId) (id : Nat) : Bool :=
  let g := s.eng e
  g.fab.jobs.any (fun j => j.owner == .op id)
  || g.fab.requests.any (fun r => r.owner == .op id)
  || g.reb.fetches.any (fun f => f.owner == .op id)
  || g.reb.installs.any (fun n => match n.purpose with
      | .opRow o => o == id
      | .drillOp o _ => o == id
      | .decode o _ => o == id
      | .reconcile o _ => o == id
      | .verify o _ => o == some id
      | .rowCheck o _ _ => o == some id
      | _ => false)
  || tierHas s e (fun c => match c with
      | .move o => o == id
      | .silver o => o == id
      | .restore o => o == id
      | .loaded _ _ _ _ o _ => o == some id
      | _ => false)

/-- Record the first mismatch found by COMPARE or CHECK: pane-row and granule, for ARGS, and the cause 0x40 (12 R347). -/
def noteMismatch (s : State) (e : EngineId) (id j granule : Nat) : State :=
  modOp s e id (fun o => if o.causes.contains 0x40 then o
    else { o with causes := o.causes ++ [0x40], info := put j 32 32 + put granule 6 0 })

/-- Complete an operation: it leaves its facet and the list of those in flight, and its last update is published. -/
def finishOp (s : State) (e : EngineId) (o : Op) (status info : Nat) : State :=
  let s := freeFacet s e o.id
  let s := s.modIss e (fun q => { q with ops := q.ops.filter (·.id != o.id) })
  publish s e (opFacet o) o.ins (o.total - o.units) status (info + o.info) o.raised

/-! ## Streams -/

def streamQueue (s : State) (e : EngineId) (st : Nat) : List RawInstr := AList.getD (s.eng e).iss.queues st []
def setQueue (s : State) (e : EngineId) (st : Nat) (q : List RawInstr) : State :=
  s.modIss e (fun x => { x with queues := if q.isEmpty then AList.erase x.queues st else AList.set x.queues st q })

/-- Operations of a stream in flight. -/
def inStream (s : State) (e : EngineId) (st : Nat) : List Op := (s.eng e).iss.ops.filter (fun o => o.ins.stream == st)

/-- A reset at the engine's level or above stops issue (15 R401). -/
def issueStopped (s : State) (e : EngineId) : Bool :=
  (s.eng e).bring.rst.isSome || !(s.eng e).bring.kat

/-- An instruction at the head of its stream may be issued now (01 R38, R39, R51, R60, 04 R128, 12 R338). -/
def canIssue (s : State) (e : EngineId) (i : RawInstr) : Bool :=
  !issueStopped s e
  && (s.eng e).iss.ops.length < 512
  && !(inStream s e i.stream).any (·.ins.body.fenceAfter)
  && !(i.body.fenceBefore && !(inStream s e i.stream).isEmpty)
  && !placeFull s e i
  && !(i.op == 0x31 && !s.stepValid)
  && !(isArray i.op && (facetOf s e (homeFacet s e i.stream)).inReset)

/-- Why issue is stopped is counted (14 R379, 04 R134). -/
def noteHeld (s : State) (e : EngineId) (i : RawInstr) : State :=
  let s := if 512 ≤ (s.eng e).iss.ops.length then bumpCycles s e cntInflightFullCycles 0 else s
  if placeFull s e i then
    bumpCycles s e cntFacetQueueFull (homeFacet s e i.stream)
  else s

/-- What CNT_MODE does at issue, published at once (12 R339). -/
def countAtIssue (s : State) (e : EngineId) (i : RawInstr) : State :=
  let c := i.body.counter.toNat
  match i.body.cntMode.toNat with
  | 1 => setArrival s e c { value := (arrival s e c).value, error := false }
  | 2 => setArrival s e c Arrival.zero
  | _ => s

/-- Issue and dispatch at an engine: checks 2 and 3 of 12 R342, then the opcode's own dispatch. -/
def dispatch (units : State → EngineId → RawInstr → Nat) (begin_ : State → EngineId → RawInstr → State)
    (s : State) (e : EngineId) (i : RawInstr) : State :=
  let s := countAtIssue (bump s e cntInstrIssued 1) e i
  if !opcodeKnown i.op || i.body.rsvd != 0 || i.body.cntMode == 3 then endNow s e i (units s e i) 0x60 2
  else if !armed s e && !runsUnarmed i then endNow s e i (units s e i) 0x11 3
  else begin_ s e i

/-- A mode that 12 reserves for its opcode: no row of the table runs it, and check 4 ends it with 0x60. COMMIT with MODE 3
is not among them: 07 R204 refuses it. -/
def modeReserved (i : RawInstr) : Bool :=
  (i.op == 0x08 && i.f3 1 0 == 3) || (i.op == 0x40 && i.f3 1 0 == 3) || (i.op == 0x4a && i.f3 1 0 == 3)

/-- An instruction no row runs: it ends at dispatch when its turn comes (12 R335). -/
def noRow (i : RawInstr) : Bool := !opcodeKnown i.op || modeReserved i || (i.op == 0x31 && i.f3 1 0 == 3)

/-- The units of an instruction that no row runs: what its opcode's count field says, 1 where it has none (12 R335, R340). -/
def deadUnits (i : RawInstr) : Nat :=
  if i.op == 0x08 then i.f2 31 0 else if i.op == 0x40 then i.f2 23 0 else 1

/-- Instructions at the head of a stream that no row runs, ended one after another. A COMMIT with MODE 3 meets row 1 of
07 R204, check 5. -/
def drainDead : Nat → State → EngineId → Nat → State
  | 0, s, _, _ => s
  | n + 1, s, e, st =>
    match streamQueue s e st with
    | [] => s
    | i :: rest =>
      if noRow i && canIssue s e i then
        let s := setQueue s e st rest
        let s := dispatch (fun _ _ i => deadUnits i) (fun s e i => endNow s e i (deadUnits i) 0x60 (if i.op == 0x31 then 5 else 4)) s e i
        drainDead n s e st
      else s

/-- An instruction for an absent position: the counter image and one record per stream and step (01 R58). The record's STEP is the
coordinator's C + 1 (notes/assumptions/54.md, DESIGN CHOICE). -/
def absentInstr (s : State) (e : EngineId) (i : RawInstr) : State :=
  let s := addArrival s e i.body.counter.toNat 1 true
  let key := (i.stream, s.group.coord.stepC)
  if (s.eng e).iss.absentSeen.contains key then s
  else
    let s := s.modIss e (fun q => { q with absentSeen := key :: q.absentSeen })
    offer s { time := s.time, step := (s.group.coord.stepC + 1) % 2 ^ 32, code := evOpStatus, engine := e.val, facet := 0xf,
              severity := 1, stream := i.stream, status := 0x70, tag := i.body.tag.toNat, args := put i.op 8 88 + checkInfo 1 }

/-- Into the issue queue of 16; a full queue, and a reset, hold the instruction outside (01 R38, 15 R401). -/
def enqueue (s : State) (e : EngineId) (i : RawInstr) : State :=
  let q := streamQueue s e i.stream
  if q.length < 16 && (s.eng e).bring.rst.isNone then setQueue s e i.stream (q ++ [i]) else bumpCycles s e cntStreamHeldCycles i.stream

/-- An instruction reaches a present engine at its issue: it is dispatched if it heads its stream and may be issued,
otherwise it waits in the queue (12 R336). -/
def issueAt (units : State → EngineId → RawInstr → Nat) (begin_ : State → EngineId → RawInstr → State)
    (s : State) (e : EngineId) (i : RawInstr) : State :=
  if !present s e then absentInstr s e i
  else match streamQueue s e i.stream with
    | [] => if canIssue s e i then dispatch units begin_ s e i else enqueue (noteHeld s e i) e i
    | h :: rest =>
      if h == i then
        if canIssue s e i then drainDead 16 (dispatch units begin_ (setQueue s e i.stream rest) e i) e i.stream
        else noteHeld s e i
      else enqueue s e i

/-- The router's answer to a target of 0xC to 0xE (01 R37, 12 R341). -/
def badTarget (s : State) (i : RawInstr) : State :=
  let s := forEngines (presentEngines s) (fun s e => addArrival s e i.body.counter.toNat 1 true) s
  offer s { time := s.time, step := (s.group.coord.stepC + 1) % 2 ^ 32, code := evOpStatus, engine := 0xe, facet := 0xf,
            severity := 2, stream := i.stream, status := 0x60, tag := i.body.tag.toNat,
            args := put i.op 8 88 + checkInfo 1 }

/-- The engines an instruction goes to: its target, or every present one (01 R37, 12 R341). -/
def targets (s : State) (i : RawInstr) : List EngineId :=
  let t := i.body.target.toNat
  if t == 0xf then presentEngines s else if t < 12 then [engineOf t] else []

/-- An engine's own copy of an instruction: a broadcast one issues at each engine in that engine's own time (01 R37). -/
def atEngine (i : RawInstr) (e : EngineId) : RawInstr := { i with body := { i.body with target := BitVec.ofNat 4 e.val } }

/-- Route an instruction row. -/
def route (units : State → EngineId → RawInstr → Nat) (begin_ : State → EngineId → RawInstr → State)
    (i : RawInstr) (s : State) : State :=
  if 12 ≤ i.body.target.toNat && i.body.target.toNat < 15 then badTarget s i
  else forEngines (targets s i) (fun s e => issueAt units begin_ s e (atEngine i e)) s

/-- A row's instruction: its opcode, and the bits of word 3 that make the row. -/
def rowInstr (opcode : Nat) (i : EngineInstr) (mask val : Nat) : RawInstr :=
  { opcode := BitVec.ofNat 8 opcode, body := { i with w3 := (i.w3 &&& ~~~(BitVec.ofNat 64 mask)) ||| BitVec.ofNat 64 val } }

/-- U of an opcode without a unit. -/
def noUnits (_ : State) (_ : EngineId) (_ : RawInstr) : Nat := 1

/-- U of an opcode that counts PANES. -/
def paneUnits (_ : State) (_ : EngineId) (i : RawInstr) : Nat := i.panes

/-- Try check 4, then check 5 conditions that fail with 0x60, in order; the first that holds ends the instruction. -/
def guardAll (s : State) (e : EngineId) (i : RawInstr) (u : Nat) (checks : List (Bool × Nat × Nat)) (k : State) : State :=
  match checks.find? (·.1) with
  | some (_, status, check) => endNow s e i u status check
  | none => k

end Sys2Proof.Machine
end

