-- ==== Sys2Proof/Machine/Control.lean ====
section
/-!
DEFINITION. The control operations NOP, FILL and FENCE, and the arrival of instructions (01 R37-R39, 04 R125, 12 R343).
-/

namespace Sys2Proof.Machine

open Sys2Proof

abbrev Out := Host.Outcome State Fault Refusal

/-- Every bit of words 1 to 3 of NOP is reserved (12 R343). -/
def beginNop (s : State) (e : EngineId) (i : RawInstr) : State :=
  if i.body.w1 != 0 || i.body.w2 != 0 || i.body.w3 != 0 then endNow s e i 1 0x60 4 else endNow s e i 1 0x00 0

/-- FILL (04 R125, 12 R352): it joins its facet's queue, never relocated. -/
def beginFill (s : State) (e : EngineId) (i : RawInstr) : State :=
  if i.body.w1 != 0 || i.f2 63 32 != 0 || i.body.w3 != 0 then endNow s e i 1 0x60 4
  else if i.f2 31 0 == 0 then endNow s e i 1 0x01 6
  else launchArray s e i 1 (.fill (i.f2 31 0))

/-- FENCE waits for what was issued before it: of its stream, or of the engine (12 R343). -/
def beginFence (s : State) (e : EngineId) (i : RawInstr) : State :=
  if i.body.w1 != 0 || i.body.w2 != 0 || i.f3 63 1 != 0 then endNow s e i 1 0x60 4
  else
    let before := if i.f3 0 0 == 0 then inStream s e i.stream else (s.eng e).iss.ops
    launch s e i none 1 (.fence (before.map (·.id)))

/-- NOP completes at dispatch and serves as a counter marker (12 R343). -/
def execNop (i : EngineInstr) (s : State) : Out := .next (route noUnits beginNop (rowInstr 0x00 i 0 0) s)

/-- FILL streams the ZERO set on its facet (04 R125). -/
def execFill (i : EngineInstr) (s : State) : Out := .next (route noUnits beginFill (rowInstr 0x01 i 0 0) s)

/-- FENCE with SCOPE STREAM (12 R343). -/
def execFenceStream (i : EngineInstr) (s : State) : Out := .next (route noUnits beginFence (rowInstr 0x02 i 1 0) s)

/-- FENCE with SCOPE ENGINE (12 R343). -/
def execFenceEngine (i : EngineInstr) (s : State) : Out := .next (route noUnits beginFence (rowInstr 0x02 i 1 1) s)

/-- An arriving instruction joins its stream's queue, or is held outside a full one (01 R38). One that no row runs ends
when it stands at the head. -/
def arriveAt (s : State) (e : EngineId) (i : RawInstr) : State :=
  if !present s e then absentInstr s e i else drainDead 16 (enqueue s e i) e i.stream

/-- The router delivers an instruction (01 R37, R38, R58). -/
def execInstructionArrival (w0 w1 w2 w3 : BitVec 64) (s : State) : Out :=
  let i := parseInstr w0 w1 w2 w3
  if 12 ≤ i.body.target.toNat && i.body.target.toNat < 15 then .next (badTarget s i)
  else .next (forEngines (targets s i) (fun s e => arriveAt s e (atEngine i e)) s)

end Sys2Proof.Machine
end

