-- ==== Sys2Proof/Machine/Fabric.lean ====
section
/-!
DEFINITION. The fabric port: the chunk header, credits and egress, the replay buffer, flows and their epochs, the checks
of a received chunk, and the matching of responses (01 R27-R36, 06 R180-R181, 09 R246, R251-R253).
-/

namespace Sys2Proof

/-! ## The chunk header (01 R27) -/

/-- Header bits [223:0]. -/
def Chunk.low (c : Chunk) : Nat :=
  put c.jobId.toNat 16 208 + put c.mapGen.toNat 16 192 + put c.dstChip.toNat 13 179 + put c.dstEngine.toNat 4 175
  + put c.srcChip.toNat 13 162 + put c.srcEngine.toNat 4 158 + put c.vc.toNat 2 156 + put c.kind.toNat 6 150
  + put c.status.toNat 8 142 + put c.seq.toNat 16 126 + put c.tag.toNat 12 114 + put c.length.toNat 9 105
  + put c.place.toNat 44 61 + put c.step.toNat 32 29 + put c.ext.toNat 29 0

/-- CRC-32C over header bits [223:0] and the payload. -/
def Chunk.crcOf (c : Chunk) : BitVec 32 := BitVec.ofNat 32 (Machine.crc32c (leBytes c.low 28 ++ c.payload))

/-- The chunk with its CRC filled in. -/
def Chunk.seal (c : Chunk) : Chunk := { c with crc := c.crcOf }

def Chunk.k (c : Chunk) : Nat := c.kind.toNat
def Chunk.window (c : Chunk) : Nat := bits c.place.toNat 43 40
def Chunk.row (c : Chunk) : Nat := bits c.place.toNat 39 12
def Chunk.column (c : Chunk) : Nat := bits c.place.toNat 11 6
def Chunk.granule (c : Chunk) : Nat := bits c.place.toNat 5 0
def Chunk.group (c : Chunk) : Nat := bits c.place.toNat 43 38
def Chunk.elementOffset (c : Chunk) : Nat := bits c.place.toNat 37 0
def Chunk.x (c : Chunk) (hi lo : Nat) : Nat := bits c.ext.toNat hi lo

/-- WINDOW, ROW, COLUMN and GRANULE in place. -/
def placeOf (window row column granule : Nat) : BitVec 44 :=
  BitVec.ofNat 44 (put window 4 40 + put row 28 12 + put column 6 6 + put granule 6 0)

end Sys2Proof

namespace Sys2Proof.Machine

open Sys2Proof

def kindKnown (k : Nat) : Bool :=
  [kindDelta, kindDeltaAck, kindAccum, kindGparity, kindGparityAck, kindSum, kindDreadReq, kindDreadResp, kindRebuildAck,
   kindMirrorReq, kindMirrorResp, kindRestore, kindCold, kindSAck, kindNak, kindResend].contains k

/-- The channel that carries a kind (01 R27); a NAK or RESEND travels on that of its request. -/
def vcOfKind (k : Nat) : Option Nat :=
  if k == kindDelta || k == kindDeltaAck then some 0
  else if k == kindAccum || k == kindGparity || k == kindGparityAck then some 1
  else if k == kindSum || k == kindDreadReq || k == kindDreadResp || k == kindRebuildAck then some 2
  else if k == kindNak || k == kindResend then none
  else some 3

/-- Kinds that carry no payload (01 R27). -/
def noPayload (k : Nat) : Bool :=
  [kindDeltaAck, kindGparityAck, kindDreadReq, kindRebuildAck, kindMirrorReq, kindSAck, kindNak, kindResend].contains k

def isRequest (k : Nat) : Bool :=
  [kindDelta, kindAccum, kindGparity, kindSum, kindDreadReq, kindMirrorReq, kindRestore, kindCold].contains k

/-- Kinds whose flow is that of a sending column (06 R181, 01 R36). -/
def byColumn (k : Nat) : Bool := [kindDelta, kindGparity, kindCold].contains k

/-! ## The DELTA encoding (06 R180) -/

/-- The set bits of the mask of a segment, in the order of its bytes. -/
def maskBits (mask : List Byte) : List Bool := (List.range 256).map (fun b => (mask.getD (b / 8) 0).getLsbD (b % 8))

/-- The bytes of a masked segment. -/
def spread : List Bool → List Byte → List Byte
  | [], _ => []
  | true :: ms, b :: bs => b :: spread ms bs
  | true :: ms, [] => 0 :: spread ms []
  | false :: ms, bs => 0 :: spread ms bs

/-- The payload follows the encoding of DELTA (06 R180). -/
def deltaValid (payload : List Byte) : Bool :=
  let n := payload.length
  n == 256 || (32 ≤ n && n < 256 && ((maskBits (payload.take 32)).filter id).length == n - 32)

/-- The 256 bytes that a DELTA payload stands for. -/
def deltaBytes (payload : List Byte) : List Byte :=
  if payload.length == 256 then payload else spread (maskBits (payload.take 32)) (payload.drop 32)

/-- The mask of a segment: bit b set where byte b is not zero. -/
def maskOf (seg : List Byte) : List Byte :=
  (List.range 32).map (fun i => BitVec.ofNat 8 ((List.range 8).foldl (fun n j =>
    n + (if seg.getD (8 * i + j) 0 != 0 then 2 ^ j else 0)) 0))

/-- The payload of one segment; none where every byte is zero (06 R180). -/
def deltaPayload (seg : List Byte) : Option (List Byte) :=
  let nz := seg.filter (· != 0)
  if nz.isEmpty then none else if nz.length ≤ 223 then some (maskOf seg ++ nz) else some seg

/-- The chunks of a pane's delta: GRANULE and payload (06 R180). -/
def deltaChunks (delta : List Byte) : List (Nat × List Byte) :=
  let cs := (List.range 16).filterMap (fun i => (deltaPayload (slice delta (256 * i) 256)).map (fun p => (4 * i, p)))
  if cs.isEmpty then [(60, zeros 32)] else cs

/-- The chunks of a whole pane sent raw, as GPARITY, COLD_PARITY and data segments are. -/
def rawChunks (content : List Byte) : List (Nat × List Byte) :=
  (List.range 16).map (fun i => (4 * i, slice content (256 * i) 256))

/-! ## Egress (01 R28, R29) -/

def credit (s : State) (e : EngineId) (vc : Nat) : Nat := AList.getD (s.eng e).fab.credits vc 0

/-- Put a chunk into the egress queue of its channel; a sender with no credit stalls (01 R28). -/
def post (s : State) (e : EngineId) (dest : List Nat) (c : Chunk) : State :=
  let s := s.modFab e (fun f => { f with egress := f.egress ++ [{ dest := dest, chunk := c }] })
  if credit s e c.vc.toNat == 0 then bumpCycles s e cntVcCreditStalls c.vc.toNat else s

/-- The first chunk of a channel in the egress queue. -/
def egressHead (s : State) (e : EngineId) (vc : Nat) : Option Sent :=
  (s.eng e).fab.egress.find? (fun x => x.chunk.vc.toNat == vc)

/-- The first chunk of a channel leaves, for one credit. -/
def sendOne (s : State) (e : EngineId) (vc : Nat) : State :=
  match egressHead s e vc with
  | none => s
  | some x =>
    if credit s e vc == 0 then s
    else
      bumpAt (s.modFab e (fun f => { f with
        egress := f.egress.erase x, out := f.out ++ [x], credits := AList.set f.credits vc (credit s e vc - 1) }))
        e cntChunksSent vc 1

def sendMany : Nat → State → EngineId → Nat → State
  | 0, s, _, _ => s
  | n + 1, s, e, vc => sendMany n (sendOne s e vc) e vc

/-- The weight of a channel in force (01 R29). -/
def vcWeight (s : State) (e : EngineId) (vc : Nat) : Nat := regNth s e regVcWeightD vc

/-- A channel has a chunk that a slot would let leave. -/
def wantsSlot (s : State) (e : EngineId) (vc : Nat) : Bool := (egressHead s e vc).isSome && credit s e vc != 0

/-- One round of the egress arbiter: each channel as many slots as its weight, and a channel of weight 0 one slot where no
other channel wants it (01 R29). -/
def egressRound (s : State) (e : EngineId) : State :=
  let want := fun v => wantsSlot s e v
  let zero := fun v => vcWeight s e v == 0
  let others := fun v => (List.range 4).any (fun u => u != v && want u && (!zero u || u < v))
  (List.range 4).foldl (fun t v =>
    if zero v then (if others v then t else sendOne t e v) else sendMany (vcWeight s e v) t e v) s

/-- A credit arrives; a sender stalled for want of it sends its next chunk (01 R28). -/
def grantCredit (s : State) (e : EngineId) (vc : Nat) : State :=
  let stalled := credit s e vc == 0 && (egressHead s e vc).isSome
  let s := s.modFab e (fun f => { f with credits := AList.set f.credits vc (credit s e vc + 1) })
  if stalled then sendOne s e vc else s

/-! ## Requests and their flows (01 R30-R33, 06 R181, 09 R251) -/

def jobIdOf (s : State) (e : EngineId) : BitVec 16 := ((s.eng e).job.job.map (·.jobId)).getD 0
def genOf (s : State) (e : EngineId) : BitVec 16 := ((s.eng e).job.job.map (·.map.gen)).getD 0
def chipId (s : State) : Nat := s.group.lc.chipId

/-- The flow a request is sent on. -/
def txKey (c : Chunk) : FlowKey :=
  if byColumn c.k then { chip := 0, engine := 0, vc := c.vc.toNat, column := some c.column }
  else { chip := c.dstChip.toNat, engine := c.dstEngine.toNat, vc := c.vc.toNat, column := none }

/-- The flow a request arrives on. -/
def rxKey (c : Chunk) : FlowKey :=
  { chip := c.srcChip.toNat, engine := c.srcEngine.toNat, vc := c.vc.toNat,
    column := if byColumn c.k then some c.column else none }

/-- A tag no sent request bears. -/
def tagLoop (used : List Nat) : Nat → Nat → Option Nat
  | 0, _ => none
  | n + 1, t => if used.contains t then tagLoop used n (t + 1) else some t

def freeTag (s : State) (e : EngineId) : Option Nat :=
  tagLoop (((s.eng e).fab.requests.filter (fun r => r.hold != .unsent)).map (·.tag)) 4096 0

/-- A destination the engine has stopped sending to (09 R246). -/
def isStopped (s : State) (e : EngineId) (chip engine vc : Nat) : Bool :=
  (s.eng e).fab.dests.any (fun d => d.chip == chip && d.engine == engine && d.vc == vc && d.stopped)

/-- Give a chunk the next SEQ of its flow in the epoch in force, the job's tags and its CRC. -/
def nextInFlow (s : State) (e : EngineId) (c : Chunk) : State × Chunk :=
  let key := txKey c
  let seq := AList.getD (s.eng e).fab.txFlows key 0
  (s.modFab e (fun f => { f with txFlows := AList.set f.txFlows key (seq + 1) }),
   { c with seq := seq, jobId := jobIdOf s e, mapGen := genOf s e }.seal)

/-- Send the chunk of a request to its chips, the stopped ones left out (09 R246). -/
def sendTo (s : State) (e : EngineId) (r : Request) (chips : List Nat) : State × Request :=
  let stop := fun ch => isStopped s e ch r.chunk.dstEngine.toNat r.chunk.vc.toNat
  let go := chips.filter (fun ch => !stop ch)
  (if go.isEmpty then s else post s e go r.chunk, { r with withheld := r.withheld ++ chips.filter stop })

/-- A NAK 0x12 holds a chunk (09 R253). -/
def genHeld (r : Request) : Bool := match r.hold with | .retry => true | .newGen _ => true | _ => false

/-- A request may not go out yet: the engine is back from reset and has not committed a newer generation (09 R254), or a chunk of its
flow that a NAK 0x12 holds goes first (09 R253). -/
def sendHeld (s : State) (e : EngineId) (c : Chunk) : Bool :=
  (s.eng e).fab.mustCommit.isSome || (s.eng e).fab.requests.any (fun q => genHeld q && txKey q.chunk == txKey c)

/-- Enter a request into the replay buffer and send it, or keep it back while it may not go out or no tag is free. -/
def enterReq (s : State) (e : EngineId) (r : Request) : State :=
  let put_ := fun (s : State) (r : Request) => s.modFab e (fun f => { f with requests := f.requests ++ [r] })
  if sendHeld s e r.chunk || (s.eng e).fab.requests.any (fun q => q.hold == .unsent && txKey q.chunk == txKey r.chunk) then
    put_ s { r with hold := .unsent }
  else match freeTag s e with
    | none => put_ s { r with hold := .unsent }
    | some t =>
      let (s, c) := nextInFlow s e { r.chunk with tag := BitVec.ofNat 12 t }
      let (s, r) := sendTo s e { r with tag := t, chunk := c } (r.awaited.map (·.2))
      put_ s r

/-- A request's chunk before SEQ, TAG and CRC. -/
def rawChunk (s : State) (e : EngineId) (chip engine vc kind : Nat) (place : BitVec 44) (step ext : Nat)
    (payload : List Byte) : Chunk :=
  { crc := 0, jobId := jobIdOf s e, mapGen := genOf s e, dstChip := BitVec.ofNat 13 chip,
    dstEngine := BitVec.ofNat 4 engine, srcChip := BitVec.ofNat 13 (chipId s), srcEngine := BitVec.ofNat 4 e.val,
    vc := BitVec.ofNat 2 vc, kind := BitVec.ofNat 6 kind, status := 0, seq := 0, tag := 0,
    length := BitVec.ofNat 9 payload.length, place := place, step := BitVec.ofNat 32 step, ext := BitVec.ofNat 29 ext,
    payload := payload }

/-- Send a request to one chip. -/
def request (s : State) (e : EngineId) (owner : Owner) (chip engine vc kind : Nat) (place : BitVec 44) (step ext : Nat)
    (payload : List Byte) : State :=
  enterReq s e { tag := 0, chunk := rawChunk s e chip engine vc kind place step ext payload, dest := [(0, chip)], awaited := [(0, chip)],
                 acked := [], withheld := [], stub := [], column := none, owner := owner, hold := .none }

/-- Send a request of a sending column to the holders of its row, one chunk with a list (06 R181). -/
def multicast (s : State) (e : EngineId) (owner : Owner) (holders : List (Nat × Nat)) (vc kind : Nat) (place : BitVec 44)
    (step ext : Nat) (payload : List Byte) : State :=
  let first := (holders.head?.map (·.2)).getD 0
  let c := rawChunk s e first e.val vc kind place step ext payload
  enterReq s e { tag := 0, chunk := c, dest := holders, awaited := holders, acked := [], withheld := [], stub := [],
                 column := some c.column, owner := owner, hold := .none }

/-- Requests that were kept back are sent, in order, while they may go out and tags are free. -/
def sendUnsent : Nat → State → EngineId → State
  | 0, s, _ => s
  | n + 1, s, e =>
    match (s.eng e).fab.requests.find? (fun r => r.hold == .unsent && !sendHeld s e r.chunk) with
    | none => s
    | some r => match freeTag s e with
      | none => s
      | some t =>
        let (s, c) := nextInFlow s e { r.chunk with tag := BitVec.ofNat 12 t }
        let (s, r') := sendTo s e { r with tag := t, chunk := c, hold := .none } (r.awaited.map (·.2))
        sendUnsent n (s.modFab e (fun f => { f with requests := f.requests.map (fun q => if q == r then r' else q) })) e

/-- Take requests out of the replay buffer. -/
def dropReqs (s : State) (e : EngineId) (p : Request → Bool) : State :=
  sendUnsent 4096 (s.modFab e (fun f => { f with requests := f.requests.filter (fun r => !p r) })) e

/-- The ended request, by its tag. -/
def dropReq (s : State) (e : EngineId) (tag : Nat) : State := dropReqs s e (fun r => r.tag == tag && r.hold != .unsent)

/-- Change a request in the replay buffer, by its tag. -/
def modReq (s : State) (e : EngineId) (tag : Nat) (g : Request → Request) : State :=
  s.modFab e (fun f => { f with requests := f.requests.map (fun r => if r.tag == tag && r.hold != .unsent then g r else r) })

/-- Send a request's chunk again to one chip (01 R33). -/
def resendReq (s : State) (e : EngineId) (r : Request) (chip : Nat) : State :=
  let (s, r') := sendTo s e { r with stub := r.stub.filter (· != chip) } [chip]
  bump (modReq s e r.tag (fun _ => r')) e cntResends 1

/-! ## Destinations (01 R33, 09 R246) -/

def destOf (s : State) (e : EngineId) (chip engine vc : Nat) : Dest :=
  ((s.eng e).fab.dests.find? (fun d => d.chip == chip && d.engine == engine && d.vc == vc)).getD
    { chip := chip, engine := engine, vc := vc, timeouts := 0, stopped := false, reported := false }

def setDest (s : State) (e : EngineId) (d : Dest) : State :=
  s.modFab e (fun f => { f with dests := d :: f.dests.filter (fun x => !(x.chip == d.chip && x.engine == d.engine && x.vc == d.vc)) })

/-- ARGS of LOSS_SUSPECT (14 R376). -/
def argsDest (chip engine vc : Nat) : Nat := put chip 13 4 + put engine 4 0 + put vc 2 64

/-- Report a destination: at most one record per chip in 10 ms (09 R246). -/
def lossSuspect (s : State) (e : EngineId) (chip engine vc : Nat) : State :=
  let s := bump (setDest s e { destOf s e chip engine vc with reported := true }) e cntLossSuspects 1
  let recent := match AList.get? s.group.ev.suspects chip with
    | some t => s.time.toNat < t.toNat + 10000000 && t ≤ s.time
    | none => false
  if recent then s
  else raise (s.modEv (fun v => { v with suspects := AList.set v.suspects chip s.time })) e evLossSuspect 1
    (argsDest chip engine vc)

/-- One resend timeout toward a destination; the eighth in a row stops it (01 R33, 09 R246). -/
def countTimeout (s : State) (e : EngineId) (chip engine vc : Nat) : State :=
  let d := destOf s e chip engine vc
  if d.stopped then s
  else if 7 ≤ d.timeouts then
    lossSuspect (setDest s e { d with timeouts := 8, stopped := true }) e chip engine vc
  else setDest s e { d with timeouts := d.timeouts + 1 }

/-- Send what was withheld from a destination. -/
def sendWithheld (s : State) (e : EngineId) (chip engine vc : Nat) : State :=
  let rs := (s.eng e).fab.requests.filter (fun r =>
    r.withheld.contains chip && r.chunk.dstEngine.toNat == engine && r.chunk.vc.toNat == vc)
  rs.foldl (fun s r => post (modReq s e r.tag (fun q => { q with withheld := q.withheld.filter (· != chip) })) e [chip] r.chunk) s

/-- A response from a destination: its timeouts start again, and a reported one is sent to again (09 R246). -/
def destAnswered (s : State) (e : EngineId) (chip engine vc : Nat) : State :=
  let d := destOf s e chip engine vc
  if d.reported then
    let s := setDest s e { d with timeouts := 0, stopped := false, reported := false }
    sendWithheld (raise s e evLossCleared 0 (argsDest chip engine vc)) e chip engine vc
  else if d.timeouts == 0 then s else setDest s e { d with timeouts := 0 }

/-- Requests that await a chip, oldest first. -/
def awaiting (s : State) (e : EngineId) (chip engine vc : Nat) : List Request :=
  (s.eng e).fab.requests.filter (fun r => r.hold == .none && r.awaited.any (fun h => h.2 == chip)
    && r.chunk.dstEngine.toNat == engine && r.chunk.vc.toNat == vc)

/-- The chunks that go out again at an expiry: the oldest, and those that a stub has refused (01 R33, R36). -/
def due (rs : List Request) (chip : Nat) : List Request :=
  match rs with
  | [] => []
  | r :: rest => r :: rest.filter (fun q => q.stub.contains chip)

/-- FABRIC_RESEND_TIMEOUT: the oldest unanswered chunk goes out again (01 R33), with those that a NAK 0x70 left for this expiry; a
refusal by a stub has been counted when it came (01 R36). -/
def resendTimeout (s : State) (e : EngineId) (chip engine vc : Nat) : State :=
  match awaiting s e chip engine vc with
  | [] => s
  | r :: rest =>
    if isStopped s e chip engine vc then s
    else
      let s := if r.stub.contains chip then s else countTimeout s e chip engine vc
      if isStopped s e chip engine vc then s
      else (due (r :: rest) chip).foldl (fun s q => resendReq s e q chip) s

/-- A NAK 0x70: the request stays, to go out again at the next expiry, and one timeout is counted (01 R36, 09 R246). -/
def stubRefused (s : State) (e : EngineId) (r : Request) (chip : Nat) : State :=
  let s := modReq s e r.tag (fun q => { q with stub := if q.stub.contains chip then q.stub else chip :: q.stub })
  countTimeout s e chip r.chunk.dstEngine.toNat r.chunk.vc.toNat

/-! ## What is received (01 R32, R34, 09 R252) -/

/-- Receiver state of a flow in an epoch; a new flow expects SEQ 0 (09 R251). -/
def rxFlow (s : State) (e : EngineId) (key : FlowKey) (gen : BitVec 16) : RxFlow :=
  ((s.eng e).fab.rxFlows.find? (fun f => f.key == key && f.gen == gen)).getD
    { key := key, gen := gen, expected := 0, gapSent := false, answers := [] }

def setRxFlow (s : State) (e : EngineId) (v : RxFlow) : State :=
  s.modFab e (fun f => { f with rxFlows := v :: f.rxFlows.filter (fun x => !(x.key == v.key && x.gen == v.gen)) })

/-- The expected SEQ of a chunk's flow moves past it. -/
def advanceFlow (s : State) (e : EngineId) (c : Chunk) : State :=
  let v := rxFlow s e (rxKey c) c.mapGen
  setRxFlow s e { v with expected := v.expected + 1, gapSent := false }

/-- The response to a request: the header turned round, with TAG, SEQ and MAP_GEN of the request (01 R36). -/
def respChunk (s : State) (e : EngineId) (c : Chunk) (kind status step : Nat) (payload : List Byte) : Chunk :=
  { c with jobId := jobIdOf s e, dstChip := c.srcChip, dstEngine := c.srcEngine, srcChip := BitVec.ofNat 13 (chipId s),
           srcEngine := BitVec.ofNat 4 e.val, kind := BitVec.ofNat 6 kind, status := BitVec.ofNat 8 status,
           length := BitVec.ofNat 9 payload.length, step := BitVec.ofNat 32 step, ext := 0, payload := payload }.seal

/-- Send a response and keep it for duplicates of the request: SEQs up to 32,767 behind the expected one are duplicates (01 R32). -/
def answerWith (s : State) (e : EngineId) (c r : Chunk) : State :=
  let v := rxFlow s e (rxKey c) c.mapGen
  let known := (s.eng e).fab.rxFlows.any (fun f => f.key == rxKey c && f.gen == c.mapGen)
  let s := if known then setRxFlow s e { v with answers := ((c.seq, r) :: v.answers).take 32768 } else s
  post s e [r.dstChip.toNat] r

def answer (s : State) (e : EngineId) (c : Chunk) (kind status step : Nat) (payload : List Byte) : State :=
  answerWith s e c (respChunk s e c kind status step payload)

/-- A response with header bits [28:0] of its own. -/
def answerExt (s : State) (e : EngineId) (c : Chunk) (kind status step ext : Nat) (payload : List Byte) : State :=
  answerWith s e c { respChunk s e c kind status step payload with ext := BitVec.ofNat 29 ext }.seal

/-- A NAK; NAK 0x12 carries this engine's generation (01 R36, 09 R252). -/
def nak (s : State) (e : EngineId) (c : Chunk) (status : Nat) : State :=
  let r := respChunk s e c kindNak status c.step.toNat []
  if status == 0x12 then bump (answerWith s e c { r with mapGen := genOf s e }.seal) e cntGenNaksSent 1
  else answerWith s e c r

/-- RESEND naming the next expected SEQ (01 R32, R36). COLUMN 0x3F says that the flow is not that of a column: the spec gives COLUMN no
value there (notes/assumptions/53.md, DESIGN CHOICE). -/
def sendResend (s : State) (e : EngineId) (c : Chunk) (expected : BitVec 16) : State :=
  let col := if byColumn c.k then c.column else 0x3f
  let r := { respChunk s e c kindResend 0 c.step.toNat [] with
             seq := expected, tag := 0, place := placeOf c.window c.row col c.granule }
  post s e [r.dstChip.toNat] r.seal

/-- Whether the chunk's CRC is good. -/
def crcGood (c : Chunk) : Bool := c.crc == c.crcOf

/-- Invalid under 01 R27: reserved KIND, invalid LENGTH, or a payload that breaks the kind's encoding. A kind on a channel that
does not carry it is taken for a reserved one (notes/assumptions/28.md, DEDUCED). -/
def badChunk (c : Chunk) : Bool :=
  !kindKnown c.k || (match vcOfKind c.k with | some v => v != c.vc.toNat | none => false) || 256 < c.length.toNat || c.length.toNat != c.payload.length
  || (noPayload c.k != (c.length.toNat == 0)) || (c.k == kindDelta && !deltaValid c.payload)

/-- Count a chunk that arrived with a good CRC; a bad one is counted and discarded. -/
def arrived (s : State) (e : EngineId) (c : Chunk) : State := bumpAt s e cntChunksReceived c.vc.toNat 1

/-- How 01 R32, R34 and 09 R252 sort a valid request: its SEQ first, against the flow state of the generation it carries, where the
engine keeps one, then its job and generation. -/
inductive Verdict where
  | foreign (inTurn : Bool)
  | otherGen
  | duplicate (answer : Option Chunk)
  | gap (expected : BitVec 16) (first : Bool)
  | oldEpoch
  | hold
  | take_
deriving DecidableEq, Repr

def verdict (s : State) (e : EngineId) (c : Chunk) : Verdict :=
  let mine := armed s e && c.jobId == jobIdOf s e
  let d := (c.mapGen - genOf s e).toNat
  if armed s e && d != 0 && d != 1 && d != 65535 then (if mine then .otherGen else .foreign false)
  else
    let v := rxFlow s e (rxKey c) c.mapGen
    let ahead := (c.seq - v.expected).toNat
    if ahead == 0 then (if !mine then .foreign true else if d == 0 then .take_ else if d == 1 then .hold else .oldEpoch)
    else if ahead < 32768 then .gap v.expected (!v.gapSent)
    else .duplicate (AList.get? v.answers c.seq)

/-- Size of the generation-hold buffer of a channel (01 R34). -/
def holdLimit (vc : Nat) : Nat := if vc == 0 then 32 else if vc == 1 then 64 else 16

def isGenHeld (h : Held) : Bool := match h.why with | .gen _ => true | _ => false

/-- Keep a request that waits, in its flow's order. -/
def keepHeld (s : State) (e : EngineId) (c : Chunk) (why : HoldWhy) : State :=
  s.modFab e (fun f => { f with held := f.held ++ [{ chunk := c, why := why }] })

/-- A request of the same flow waits already. -/
def flowWaits (s : State) (e : EngineId) (c : Chunk) : Bool :=
  (s.eng e).fab.held.any (fun h => rxKey h.chunk == rxKey c && h.chunk.mapGen == c.mapGen)

/-! ## Responses (01 R36) -/

/-- The outstanding request that a response matches: by TAG, with the request's SEQ. -/
def matchReq (s : State) (e : EngineId) (c : Chunk) : Option Request :=
  (s.eng e).fab.requests.find? (fun r => r.hold != .unsent && r.tag == c.tag.toNat && r.chunk.seq == c.seq)

/-- A chip has answered a request: it is awaited no longer, and the last one ends the request. -/
def settleReq (s : State) (e : EngineId) (r : Request) (chip : Nat) : State :=
  let left := if r.column.isNone then [] else r.awaited.filter (fun h => h.2 != chip)
  if left.isEmpty then dropReq s e r.tag else modReq s e r.tag (fun q => { q with awaited := left })

/-- The flow that a RESEND names is that of a sending column (01 R36): every request of VC-D, none of VC-B, and on VC-G and VC-S those
of a COLUMN other than 0x3F (notes/assumptions/53.md, DESIGN CHOICE). -/
def namesColumn (c : Chunk) : Bool := c.vc == 0 || (c.vc != 2 && c.column != 0x3f)

/-- RESEND: every chunk of the flow from the named SEQ goes out again (01 R33, R36). -/
def resendFrom (s : State) (e : EngineId) (c : Chunk) : State :=
  let chip := c.srcChip.toNat
  let rs := (awaiting s e chip c.srcEngine.toNat c.vc.toNat).filter (fun r =>
    r.chunk.mapGen == c.mapGen && (r.chunk.seq - c.seq).toNat < 32768
    && (if namesColumn c then byColumn r.chunk.k && r.chunk.column == c.column else !byColumn r.chunk.k))
  rs.foldl (fun s r => resendReq s e r chip) s

/-! ## Ingress (01 R27-R29) -/

/-- Slots of the ingress buffer of a channel (01 R27). -/
def ingressSlots (vc : Nat) : Nat := if vc == 0 then 64 else if vc == 1 then 128 else 32

/-- Credits that the engine advertises and the fabric has not used: one for each slot that holds no waiting request (01 R28). -/
def ingressCredits (s : State) (e : EngineId) (vc : Nat) : Nat :=
  ingressSlots vc - ((s.eng e).fab.held.filter (fun h => h.chunk.vc.toNat == vc)).length

/-- One round of slots: from each channel's queue as many as its weight. -/
def slotRound : List (Nat × List Held) → List Held
  | [] => []
  | (w, q) :: rest => q.take w ++ slotRound rest

/-- Waiting requests in the order in which ingress processing slots go to the channels; a weight of 0 comes when no other channel wants
one (01 R29). -/
def slotOrder : Nat → List (Nat × List Held) → List Held
  | 0, qs => qs.flatMap (·.2)
  | n + 1, qs =>
    if qs.all (fun q => q.1 == 0 || q.2.isEmpty) then qs.flatMap (·.2)
    else slotRound qs ++ slotOrder n (qs.map (fun q => (q.1, q.2.drop q.1)))

/-- The waiting requests of an engine in that order, each channel's by arrival. -/
def ingressOrder (s : State) (e : EngineId) : List Held :=
  let held := (s.eng e).fab.held
  slotOrder held.length ((List.range 4).map (fun v => (vcWeight s e v, held.filter (fun h => h.chunk.vc.toNat == v))))

end Sys2Proof.Machine
end

