-- ==== Sys2Proof/Machine/Health.lean ====
section
/-!
DEFINITION. Health: the corrected-error bucket (11 R327), event delivery (01 R44-R45), the counter latch (14 R380-R382),
STEPREC and the spike detectors (14 R383-R384), the risk estimator (14 R385-R387), and time running backward (01 R50).
-/

namespace Sys2Proof.Machine

open Sys2Proof

/-! ## The corrected-error bucket -/

/-- One corrected event (11 R327). -/
def ceUnit (s : State) (e : EngineId) : State :=
  let b := min 65535 ((s.eng e).lou.bucket + 1)
  let thr := reg s e regCeBucketThreshold
  if thr < b then
    let s := raise s e evCeBucketOverflow 1 b
    bump (s.modLou e (fun l => { l with bucket := thr / 2 })) e cntCeBucketOverflows 1
  else s.modLou e (fun l => { l with bucket := b })

/-- The level loses one unit (11 R327). -/
def execCeLeakInterval (e : EngineId) (s : State) : Out :=
  .next (s.modLou e (fun l => { l with bucket := l.bucket - 1 }))

/-! ## Event delivery -/

/-- The record that reports drops, queued before any other new one (01 R45). -/
def overflowRec (s : State) : State :=
  if s.group.ev.dropped == 0 || 256 ≤ s.group.ev.queue.length then s
  else
    let n := s.group.ev.dropped
    let s := s.modEv (fun v => { v with dropped := 0 })
    queueRec s { time := s.time, step := (s.group.coord.stepC + 1) % 2 ^ 32, code := evOverflow, engine := 0xe, facet := 0xf,
                 severity := 1, stream := 0, status := 0, tag := 0, args := n % 2 ^ 32 }

/-- The oldest record goes to the control processor (01 R44). -/
def execEventDeliver (s : State) : Out :=
  match s.group.ev.queue with
  | [] => .next s
  | r :: rest => .next (overflowRec (s.modEv (fun v => { v with queue := rest, delivered := v.delivered ++ [r] })))

/-! ## The latch -/

/-- The three non-determinism counts: sum, relocations, non-exact, with bit 63 (11 R332). -/
def nondetWords (l : Loupe) : Nat × Nat × Nat :=
  let f := if l.nondetFlag then 2 ^ 63 else 0
  (((l.nondetRel + l.nondetNon) % 2 ^ 63) + f, l.nondetRel % 2 ^ 63 + f, l.nondetNon % 2 ^ 63 + f)

/-- A record of a latch image: its word and its values (14 R382). -/
def imageRec (index sub : Nat) (ws : List Nat) : List Byte :=
  leBytes (put index 16 48 + put sub 8 40 + put ws.length 16 24) 8 ++ ws.flatMap (fun w => leBytes w 8)

/-- The image header (14 R382). -/
def imageHead (seq : Nat) (time : BitVec 64) (c resets job gen : Nat) (late : Bool) : List Byte :=
  leBytes (put seq 32 480 + put time.toNat 64 416 + put c 32 384 + put resets 64 320 + put job 16 304 + put gen 16 288
           + put (b2n late) 1 287) 64

/-- The counters of a scope, in ascending index and sub-index. -/
def counterRecs (shared : Bool) (cs : RegFile) : List Byte :=
  (counterList.filter (fun c => c.2.2.2 == shared)).flatMap (fun c =>
    imageRec c.1 c.2.1 ((List.range c.2.2.1).map (fun i => AList.getD cs (c.1, c.2.1, i) 0)))

/-- Words that pack the arrival counters and their flags. -/
def arrivalWords (q : AList Nat Arrival) : List Nat :=
  (List.range 512).map (fun i => (AList.getD q (2 * i) Arrival.zero).value.toNat
    + 2 ^ 32 * (AList.getD q (2 * i + 1) Arrival.zero).value.toNat)
def errorWords (q : AList Nat Arrival) : List Nat :=
  (List.range 16).map (fun i => (List.range 64).foldl (fun n b =>
    n + (if (AList.getD q (64 * i + b) Arrival.zero).error then 2 ^ b else 0)) 0)

/-- The image of an engine (14 R382). -/
def engineImage (s : State) (e : EngineId) (seq : Nat) (late : Bool) : List Byte :=
  let g := s.eng e
  let nd := nondetWords g.lou
  let job := g.job.job
  imageHead seq s.time g.job.committed (counter s e cntResets 0) ((job.map (·.jobId.toNat)).getD 0)
    ((job.map (·.map.gen.toNat)).getD 0) late
  ++ imageRec 0x6030 1 [nd.1] ++ imageRec 0x6030 2 [nd.2.1] ++ imageRec 0x6030 3 [nd.2.2]
  ++ imageRec 0x6050 1 [g.lou.bucket]
  ++ imageRec 0x9000 0xfe (errorWords g.iss.arrivals) ++ imageRec 0x9000 0xff (arrivalWords g.iss.arrivals)
  ++ counterRecs false g.dict.counters ++ zeros 8

/-- The image of the group; the fields of its header that only an engine has are zeros (14 R382; notes/assumptions/40.md, DEDUCED). -/
def groupImage (s : State) (seq : Nat) (late : Bool) : List Byte :=
  imageHead seq s.time s.group.coord.stepC 0 0 0 late ++ counterRecs true s.group.dict.counters ++ zeros 8

/-- The latch fires: every unit copies its counters (14 R381). -/
def fireLatch (s : State) (late : Bool) : State :=
  let seq := (s.group.health.latch.seq + 1) % 2 ^ 32
  let s := forEngines (presentEngines s) (fun s e => s.modDict e (fun d => { d with latchImage := engineImage s e seq late })) s
  let img := groupImage s seq late
  s.modHealth (fun h => { h with latch := { h.latch with kind := 0, seq := seq, late := late, state := 2 }, latchImage := img })

/-- A latch armed at time fires once the time base has reached T (14 R381). -/
def execLatchFireAtTime (s : State) : Out :=
  let l := s.group.health.latch
  if l.kind == 1 && l.at_ ≤ s.time.toNat then .next (fireLatch s false) else .next s

/-- A latch armed at a step fires on the release of that step's COMMIT (14 R381). -/
def fireAtStep (s : State) (step : Nat) : State :=
  let l := s.group.health.latch
  if l.kind == 2 && l.at_ == step then fireLatch s false else s

/-- Cancel an armed latch and report it (14 R381). -/
def cancelLatch (s : State) : State :=
  let seq := s.group.health.latch.seq
  raiseGroup (s.modHealth (fun h => { h with latch := { h.latch with kind := 0, state := 3 } })) evLatchCancelled 1 seq

/-- `minutes` from a time on. -/
def afterMinutes (t : BitVec 64) (minutes : Nat) : BitVec 64 := t + BitVec.ofNat 64 (minutes * 60000000000)

/-- The intervals that run restart from the time base's value: the service lease, the lockout of 60 s, *RISK_REPEAT* and the intervals
between two LOSS_SUSPECT records of a chip (01 R50). Those that expire by a command of their own hold no time. -/
def restartTimers (s : State) : State :=
  let s := s.modLc (fun l => { l with
    leaseEnd := if l.state == .service then afterMinutes s.time l.lease else l.leaseEnd
    lockEnd := if l.lockout then afterMinutes s.time 1 else l.lockEnd })
  let s := s.modHealth (fun h => { h with lastReq := h.lastReq.map (fun _ => s.time) })
  s.modEv (fun v => { v with suspects := v.suspects.map (fun p => (p.1, s.time)) })

/-- A sample of the time base; one lower than before is reported, running intervals restart, and a latch may be cancelled (01 R50). -/
def execTimeBackward (time : BitVec 64) (s : State) : Out :=
  if s.time ≤ time then .next { s with time := time }
  else
    let s := restartTimers { s with time := time }
    let s := forEngines (presentEngines s) (fun s e => raise s e evTimeBackward 1 time.toNat) s
    let l := s.group.health.latch
    if l.kind == 1 && time.toNat + 1000000000 < l.at_ then .next (cancelLatch s) else .next s

/-! ## STEPREC -/

/-- The parameters of detector `d`: alpha, K, floor, warm-up (14 R383). -/
def spikeParams (s : State) (d : Nat) : F32 × F32 × F32 × Nat :=
  let w := regIn (isSix s) s.group.dict.regs regSpikeParams.1 regSpikeParams.2 d
  (BitVec.ofNat 32 (bits w 127 96), BitVec.ofNat 32 (bits w 95 64), BitVec.ofNat 32 (bits w 63 32), bits w 31 0)

/-- One detector's step: the detector after, and the spike's ARGS where it spikes (14 R384). -/
def detect (p : F32 × F32 × F32 × Nat) (d : Detector) (x : F32) : Detector × Option Nat :=
  let (alpha, k, floor, warm) := p
  let lim := F32.mul k (F32.max d.nu floor)
  let spike := warm ≤ d.c && F32.lt lim (F32.sub x d.mu)
  let x' := if spike then F32.add d.mu lim else x
  let mu := if d.c == 0 then x' else d.mu
  let nu := F32.add d.nu (F32.mul alpha (F32.sub (F32.abs (F32.sub x' mu)) d.nu))
  let mu' := F32.add mu (F32.mul alpha (F32.sub x' mu))
  ({ mu := mu', nu := nu, c := d.c + 1 },
   if spike then some (put x.toNat 32 64 + put d.mu.toNat 32 32 + put lim.toNat 32 0) else none)

def setDetector (s : State) (d : Nat) (v : Detector) : State :=
  s.modHealth (fun h => { h with detectors := h.detectors.set (d % 2) v (Nat.mod_lt _ (by decide)) })
def detectorOf (s : State) (d : Nat) : Detector := s.group.health.detectors[d % 2]'(Nat.mod_lt _ (by decide))

/-- Run one detector, raise and count its spike; whether it spiked. -/
def runDetector (s : State) (d : Nat) (x : F32) : State × Bool :=
  let (v, sp) := detect (spikeParams s d) (detectorOf s d) x
  let s := setDetector s d v
  match sp with
  | none => (s, false)
  | some args =>
    let s := raiseGroup s (if d == 0 then evLossSpike else evGnormSpike) 1 args
    (gbump s (if d == 0 then cntLossSpikes else cntGnormSpikes) 1, true)

/-- The coordinator processes a STEPREC (14 R384). The ARGS of NONFINITE_STEPREC carry the operands' bits as they came
(notes/assumptions/64.md, DESIGN CHOICE). -/
def stepRecord (s : State) (step : Nat) (xl xg : F32) : State :=
  if step ≤ s.group.health.lastStep then gbump s cntSteprecRepeats 1
  else
    let s := s.modHealth (fun h => { h with lastStep := step })
    let flag := fun (s : State) (spike nf : Bool) =>
      s.modHealth (fun h => { h with stepFlags := ((step, spike, nf) :: h.stepFlags).take 1024 })
    if !xl.isFinite || !xg.isFinite then
      let s := gbump (flag s false true) cntNonfiniteSteprecs 1
      raiseGroup s evNonfiniteSteprec 1 (put xl.toNat 32 0 + put xg.toNat 32 32)
    else
      let (s, a) := runDetector s 0 xl
      let (s, b) := runDetector s 1 xg
      flag s (a || b) false

def beginSteprec (s : State) (e : EngineId) (i : RawInstr) : State :=
  if i.body.w1 != 0 || i.f2 63 32 != 0 then endNow s e i 1 0x60 4
  else
    let s := stepRecord s (i.f2 31 0) (BitVec.ofNat 32 (i.f3 63 32)) (BitVec.ofNat 32 (i.f3 31 0))
    endNow s e i 1 0x00 0

/-- STEPREC hands its values to the detectors and completes with 0x00 (12 R349, 14 R383). -/
def execSteprec (i : EngineInstr) (s : State) : Out := .next (route noUnits beginSteprec (rowInstr 0x32 i 0 0) s)

/-! ## Risk -/

/-- The points of a risk curve (14 R386). -/
def riskPoints (bs : List Byte) : List (Nat × Nat) :=
  (List.range (bs.length / 8)).map (fun i => let w := leAt bs (8 * i) 8; (bits w 63 32, bits w 7 0))

/-- The weight between the points of a curve, `v` at or above the first. -/
def riskBetween (v : Nat) : List (Nat × Nat) → Nat
  | [] => 0
  | [p] => p.2
  | p :: q :: rest =>
    if v < q.1 then (p.2 * (q.1 - v) + q.2 * (v - p.1)) / (q.1 - p.1) else riskBetween v (q :: rest)

/-- The weight of an input (14 R386). -/
def riskWeight (bs : List Byte) (v : Nat) : Nat :=
  match riskPoints bs with
  | [] => 0
  | p :: rest => if v ≤ p.1 then p.2 else riskBetween v (p :: rest)

/-- The six inputs (14 R385). -/
def riskInputs (s : State) : List Nat :=
  let h := s.group.health
  let from_ := h.lastStep - greg s regRiskStepWindow
  let rec_ := h.stepFlags.filter (fun f => from_ < f.1 && f.1 ≤ h.lastStep)
  let window := greg s regRiskWindowMs * 1000000
  [ (presentEngines s).foldl (fun m e => max m (s.eng e).lou.bucket) 0,
    greg s regLinkRetries,
    greg s regThermalMargin,
    (h.erasures.filter (fun t => s.time.toNat ≤ t.toNat + window)).length,
    (rec_.filter (fun f => f.2.1)).length,
    (rec_.filter (fun f => f.2.2 || h.skipped.contains f.1)).length ]

def riskWeights (s : State) : List Nat :=
  (riskInputs s).zipIdx.map (fun p => riskWeight (blobIn s.group.dict.blobs regRiskCurve.1 (regRiskCurve.2 + p.2)) p.1)

/-- Six weights in place, w_i at [8i + 15:8i + 8]. -/
def packWeights (ws : List Nat) : Nat := ws.zipIdx.foldl (fun n p => n + put p.1 8 (8 + 8 * p.2)) 0

/-- *RISK_VIEW* (14 R387). -/
def riskView (s : State) : Nat :=
  let h := s.group.health
  h.riskView / 256 * 256 + put (b2n (h.lastReq.isSome && !h.armedReq)) 1 2 + put (b2n h.staleTherm) 1 1
  + put (b2n h.staleLink) 1 0

/-- Raise SECURE_REQUEST and disarm (14 R387). -/
def secureRequest (s : State) (score : Nat) (ws : List Nat) : State :=
  let s := raiseGroup s evSecureRequest 1 (put score 8 0 + packWeights ws + put (greg s regRiskThreshold) 8 56)
  let s := gbump s cntSecureRequests 1
  s.modHealth (fun h => { h with armedReq := false, lastReq := some s.time, apertured := false, above := true })

/-- One evaluation (14 R385, R387). -/
def execRiskPeriod (s : State) : Out :=
  let ws := riskWeights s
  let score := min 255 (ws.foldl (· + ·) 0)
  let thr := greg s regRiskThreshold
  let s := s.modHealth (fun h => { h with riskView := put score 8 56 + packWeights ws, above := h.above && thr ≤ score })
  let h := s.group.health
  if thr ≤ score then
    if h.armedReq then .next (secureRequest s score ws)
    else match h.lastReq with
      | none => .next s
      | some t =>
        let rep := greg s regRiskRepeat
        if rep != 0 && h.above && !h.apertured && t.toNat + rep * 1000000 ≤ s.time.toNat then
          .next (secureRequest s score ws)
        else .next s
  else if score + greg s regRiskHysteresis ≤ thr && h.lastReq.isSome then
    .next (s.modHealth (fun h => { h with armedReq := true }))
  else .next s

/-- An input was not written within *INPUT_STALE* (14 R386). -/
def execInputStale (input : HealthInput) (s : State) : Out :=
  match input with
  | .linkRetries =>
    if s.group.health.staleLink then .next s
    else .next (raiseGroup (s.modHealth (fun h => { h with staleLink := true })) evRiskInputStale 1 1)
  | .thermalMargin =>
    if s.group.health.staleTherm then .next s
    else .next (raiseGroup (s.modHealth (fun h => { h with staleTherm := true })) evRiskInputStale 1 2)

end Sys2Proof.Machine
end

