-- ==== Sys2Proof/Machine/Sram.lean ====
section
/-!
DEFINITION. The code of the engine's SRAM words, macro retirement, and the flip-mask on SRAM words and coded panes
(11 R322-R326).
-/

namespace Sys2Proof.Machine

open Sys2Proof

/-- The structures of 11 R325 by number. -/
def sramCache : Nat := 0
def sramPresence : Nat := 1
def sramStaging : Nat := 2
def sramLedger : Nat := 3

/-- Items of the ledger cache beside ledger entries and residency words, which stand under their byte address: update programs,
curves, the seal table's entries, live masks and coefficient tables (06 R163, R170, R173, 08 R225, 11 R324). -/
def itemProgram (p : Nat) : Nat := 2 ^ 60 + p
def itemCurve (c : Nat) : Nat := 2 ^ 61 + c
def itemSeal (object step : Nat) : Nat := 2 ^ 62 + 2 * object + step % 2
def itemMask (object : Nat) : Nat := 2 ^ 63 + object
/-- The coefficient table of an ERASED mask; that of mask 0 is the encoding table. -/
def itemCoeff (erased : Nat) : Nat := 2 ^ 64 + erased

/-! ## The code (11 R322) -/

/-- x^i in the field of 03 R79. -/
def gfExp (i : Nat) : Byte := gfPow 2 i

/-- The syndrome S_i of an error pattern: byte b is the coefficient of x^(67 - b). -/
def syndrome (errors : AList Nat Byte) (i : Nat) : Byte :=
  errors.foldl (fun acc p => acc ^^^ gfMul p.2 (gfPow (gfExp i) (67 - p.1))) 0

/-- A single byte error that the four syndromes agree on: its place and value. -/
def oneError (s : List Byte) : Option (Nat × Byte) :=
  (List.range 68).findSome? (fun b =>
    let x := gfExp (67 - b)
    let v := s.getD 0 0
    if v != 0 && s.getD 1 0 == gfMul v x && s.getD 2 0 == gfMul (gfMul v x) x
        && s.getD 3 0 == gfMul (gfMul (gfMul v x) x) x then some (b, v) else none)

/-- Two byte errors that the four syndromes agree on, at places `b` and `c`: their values. -/
def twoErrors (s : List Byte) (b c : Nat) : Option (Byte × Byte) :=
  let x := gfExp (67 - b)
  let y := gfExp (67 - c)
  let v := gfMul (gfMul (s.getD 0 0) x ^^^ s.getD 1 0) (gfInv (x ^^^ y))
  let u := s.getD 0 0 ^^^ v
  let term := fun i => gfMul u (gfPow x i) ^^^ gfMul v (gfPow y i)
  if u != 0 && v != 0 && term 2 == s.getD 2 0 && term 3 == s.getD 3 0 then some (u, v) else none

/-- What reading a word comes to: it is used, it is corrected, or it is uncorrectable. `bytes` are those in error. -/
inductive WordRead where
  | good
  | corrected (bytes : List Nat)
  | uncorrectable
deriving DecidableEq, Repr

/-- The decoder of an SRAM word with no macro retired (11 R322). -/
def decodeWord (errors : AList Nat Byte) : WordRead :=
  let s := (List.range 4).map (syndrome errors)
  if s.all (· == 0) then .good
  else match oneError s with
    | some (b, _) => .corrected [b]
    | none =>
      match (List.range 68).findSome? (fun b => (List.range b).findSome? (fun c => (twoErrors s b c).map (fun _ => [c, b]))) with
      | some l => .corrected l
      | none => .uncorrectable

/-! ## Faults of the engine's words -/

def wordErrors (s : State) (e : EngineId) (struct_ word : Nat) : AList Nat Byte :=
  (((s.eng e).lou.faults.find? (fun f => f.struct_ == struct_ && f.word == word)).map (·.errors)).getD []

/-- Set the error pattern of a word; an empty pattern is a sound word. -/
def setWordErrors (s : State) (e : EngineId) (struct_ word : Nat) (errors : AList Nat Byte) : State :=
  s.modLou e (fun l =>
    let rest := l.faults.filter (fun f => !(f.struct_ == struct_ && f.word == word))
    { l with faults := if errors.isEmpty then rest else { struct_ := struct_, word := word, errors := errors } :: rest })

def retiredIn (s : State) (e : EngineId) (struct_ : Nat) : Option Nat :=
  ((s.eng e).lou.retired.find? (fun p => p.1 == struct_)).map (·.2)

/-- An engine fault found inside a command: handled at the command's end (15 R407). -/
def engineFault (s : State) (e : EngineId) (cause : Nat) : State :=
  s.modBring e (fun b => if b.fault.isSome then b else { b with fault := some cause })

def facetFault (s : State) (e : EngineId) (f : Nat) : State :=
  s.modBring e (fun b => { b with facetFaults := if b.facetFaults.contains f then b.facetFaults else b.facetFaults ++ [f] })

/-- Causes of an engine fault (15 R407). -/
def causeStamp : Nat := 1
def causeSecondMacro : Nat := 2
def causeTable : Nat := 3
def causeSlot : Nat := 4
def causeClock : Nat := 5
def causePower : Nat := 6
def causeNoFacets : Nat := 7

/-- Retire a macro; a second one in the engine is an engine fault (11 R323). -/
def retireMacro (s : State) (e : EngineId) (struct_ macro_ : Nat) : State :=
  if (s.eng e).lou.retired.contains (struct_, macro_) then s
  else
    let second := !(s.eng e).lou.retired.isEmpty
    let s := s.modLou e (fun l => { l with retired := l.retired ++ [(struct_, macro_)] })
    let s := raise s e evMacroRetired 1 (put struct_ 2 0 + put macro_ 5 4)
    if second then engineFault s e causeSecondMacro else s

/-- Count a corrected word against the macros that hold its bytes (11 R322, R323). -/
def countMacros (s : State) (e : EngineId) (struct_ : Nat) (bytes : List Nat) : State :=
  (bytes.map (· / 4)).eraseDups.foldl (fun s m =>
    let n := AList.getD (s.eng e).lou.macroHits (struct_, m) 0 + 1
    let s := s.modLou e (fun l => { l with macroHits := AList.set l.macroHits (struct_, m) n })
    if reg s e regMacroRetireThreshold < n then retireMacro s e struct_ m else s) s

/-- Read the word of a structure that holds item `i`: corrected words are written back, counted and fed to the bucket;
whether the word can be used. A word with a retired macro is decoded by its erasures alone (notes/assumptions/9.md). -/
def sramRead (s : State) (e : EngineId) (struct_ i : Nat) : State × Bool :=
  if (s.eng e).lou.faults.isEmpty then (s, true)
  else
    let w := Config.sramWord struct_ i
    let errors := wordErrors s e struct_ w
    if (retiredIn s e struct_).isSome then (s, true)
    else match decodeWord errors with
      | .good => (s, true)
      | .corrected bytes =>
        let s := bump (setWordErrors s e struct_ w []) e cntSramCorrected 1
        (countMacros (ceUnit s e) e struct_ bytes, true)
      | .uncorrectable =>
        let s := bump (setWordErrors s e struct_ w []) e cntSramUncorrectable 1
        (raise s e evSramUncorrectable 2 (put struct_ 2 0 + put w 38 8), false)

/-! ## Flip-mask (11 R325, R326) -/

def flipTarget (s : State) (e : EngineId) : Nat := reg s e regFlipmaskTarget
def flipValue (s : State) (e : EngineId) : Nat := reg s e regFlipmaskValue
def flipKind (s : State) (e : EngineId) : Nat := bits (flipTarget s e) 63 62

/-- The armed mask has been applied. -/
def flipFired (s : State) (e : EngineId) (kind : Nat) : State :=
  raise (s.modLou e (fun l => { l with flipArmed := false })) e evFlipmaskFired 0 kind

/-- The mask as an error pattern of an encoded word: eight bytes from BYTE_OFFSET. -/
def flipErrors (offset value : Nat) : AList Nat Byte :=
  ((List.range 8).map (fun i => (offset + i, BitVec.ofNat 8 (value / 256 ^ i)))).filter (fun p => p.2 != 0)

/-- Write the word of a structure that holds item `i`: the word is sound, or carries the armed mask. -/
def sramWrite (s : State) (e : EngineId) (struct_ i : Nat) : State :=
  if (s.eng e).lou.faults.isEmpty && !(s.eng e).lou.flipArmed then s
  else
    let w := Config.sramWord struct_ i
    let t := flipTarget s e
    if (s.eng e).lou.flipArmed && flipKind s e == 1 && bits t 61 58 == struct_ && bits t 45 0 == w then
      flipFired (setWordErrors s e struct_ w (flipErrors (bits t 57 52) (flipValue s e))) e 1
    else setWordErrors s e struct_ w []

/-- An item is changed in the ledger cache: it is read, an unreadable word being reloaded (11 R324), and written. -/
def cacheItem (s : State) (e : EngineId) (i : Nat) : State := sramWrite (sramRead s e sramLedger i).1 e sramLedger i

/-- The coefficient table of an ERASED mask is used: a cached one is read and, if unreadable, derived again by a new solve; one
that was not cached is written (04 R113, 11 R324). -/
def readMatrix (s : State) (e : EngineId) (mask : Nat) : State :=
  let hit := (s.eng e).iss.matrices.contains mask
  let s := useMatrix s e mask
  if !hit then sramWrite s e sramLedger (itemCoeff mask)
  else
    let (s, ok) := sramRead s e sramLedger (itemCoeff mask)
    if ok then s
    else
      let s := sramWrite s e sramLedger (itemCoeff mask)
      if isLocalMask (geo s e) (erasedCols (geo s e) mask) then s else bump s e cntDecodeCacheMisses 1

/-- The update programs, the curves and the encoding table are written to the ledger cache. -/
def writeTables (s : State) (e : EngineId) : State :=
  let items := itemCoeff 0 :: (List.range 16).map itemProgram ++ (List.range 32).map itemCurve
  items.foldl (fun s i => sramWrite s e sramLedger i) s

/-- Read words of the program and curve tables: one that cannot be read is an engine fault (11 R324). -/
def readTables (s : State) (e : EngineId) (items : List Nat) : State × Bool :=
  items.foldl (fun t i =>
    let (s, ok) := sramRead t.1 e sramLedger i
    if ok then (s, t.2) else (engineFault s e causeTable, false)) (s, true)

/-- The bytes of a pane as the controller stores them: an armed mask on one of the written granules is XORed in. -/
def flipPane (s : State) (e : EngineId) (window row : Nat) (granules : List Nat) (content : List Byte) : State × List Byte :=
  let t := flipTarget s e
  if (s.eng e).lou.flipArmed && flipKind s e == 2 && bits t 61 58 == window && bits t 45 0 == row
      && granules.contains (bits t 51 46) then
    let at_ := 64 * bits t 51 46 + bits t 57 52
    (flipFired s e 2, xorBytes content (zeros at_ ++ leBytes (flipValue s e) 8 ++ zeros (4088 - at_)))
  else (s, content)

end Sys2Proof.Machine
end

