-- ==== Sys2Proof/Machine/Accum.lean ====
section
/-!
DEFINITION. Exact gradient accumulation: tiles and their records, group slots, ACCOPEN, ACCUM, ACCCLOSE, contributions over
the fabric, closing, and the peek of 05 R156 (05 R136-R158, 12 R348).
-/

namespace Sys2Proof.Machine

open Sys2Proof

/-! ## The grid (05 R136, R137) -/

/-- One element's addition: main, tail, and whether it overflowed or lost bits. -/
def addElem (wide : Bool) (m sh main tail : Int) : Int × Int × Bool × Bool :=
  let mag := m.natAbs
  let sg : Int := if m < 0 then -1 else 1
  if 0 ≤ sh then
    if 2 ^ 47 ≤ mag * 2 ^ sh.toNat then (main, tail, true, false) else (main + m * 2 ^ sh.toNat, tail, false, false)
  else
    let n := (-sh).toNat
    let q := sg * ((mag / 2 ^ n : Nat) : Int)
    if wide then
      let k := 47 + sh
      let u := sg * ((if 0 ≤ k then mag * 2 ^ k.toNat else mag / 2 ^ (-k).toNat : Nat) : Int)
      (main + q, tail + (u - q * 2 ^ 47), false, decide (k < 0) && mag % 2 ^ (-k).toNat != 0)
    else (main + q, tail, false, mag % 2 ^ n != 0)

/-! ## Tile records (05 R142, R143) -/

/-- A tile record. -/
structure TileRec where
  openSeq   : Nat
  anchor    : Nat
  overflow  : Bool
  nonfinite : Bool
  counts    : List Nat
deriving DecidableEq, Repr

def parseTile (v : Nat) : TileRec :=
  { openSeq := bits v 127 96, anchor := bits v 95 88, overflow := bit v 85, nonfinite := bit v 84,
    counts := (List.range 4).map (fun i => bits v (32 + 17 * i) (16 + 17 * i)) }

def TileRec.word (r : TileRec) : Nat :=
  put r.openSeq 32 96 + put r.anchor 8 88 + put (b2n r.overflow) 1 85 + put (b2n r.nonfinite) 1 84
  + r.counts.zipIdx.foldl (fun n p => n + put p.1 17 (16 + 17 * p.2)) 0

def TileRec.flagged (r : TileRec) : Bool := r.overflow || r.nonfinite

def accSlot (s : State) (e : EngineId) (g : Nat) : AccSlot := AList.getD (s.eng e).job.slots g AccSlot.init
def setSlot (s : State) (e : EngineId) (g : Nat) (a : AccSlot) : State :=
  s.modJob e (fun j => { j with slots := AList.set j.slots g a })

/-- The accumulation region proper and its record area (05 R141). -/
def accRegion (s : State) (e : EngineId) : Nat × Nat := (reg s e regAccRegionBase, reg s e regAccRegionSize)
def accRecords (s : State) (e : EngineId) : Nat × Nat := (reg s e regAccRecordBase, reg s e regAccRegionSize / 128)

/-- A byte range reaches the accumulation region, its record area included. -/
def touchesAcc (s : State) (e : EngineId) (a n : Nat) : Bool :=
  overlap (a, n) (accRegion s e) || overlap (a, n) (accRecords s e)

/-- The record of a tile whose main words start at an address. -/
def recordAt (s : State) (e : EngineId) (x : Nat) : Nat :=
  reg s e regAccRecordBase + 16 * ((x - reg s e regAccRegionBase) / 2048)

def AccSlot.mainAt (a : AccSlot) (i : Nat) : Nat := a.accBase + 8 * i
def AccSlot.tailAt (a : AccSlot) (i : Nat) : Nat := a.tailBase + 8 * i
def AccSlot.recAt (s : State) (e : EngineId) (a : AccSlot) (tile : Nat) : Nat := recordAt s e (a.accBase + 2048 * tile)

/-- Main and tail words of a slot. -/
def AccSlot.ranges (a : AccSlot) : List (Nat × Nat) :=
  (a.accBase, 8 * a.elements) :: (if a.wide then [(a.tailBase, 8 * a.elements)] else [])

/-- The record bytes of a slot's range. -/
def recordRange (s : State) (e : EngineId) (a : AccSlot) : Nat × Nat := (a.recAt s e 0, 16 * (a.elements / 256))

/-- Bytes of a group's tiles, in the cache or in the stack (05 R153). -/
def accRead (s : State) (e : EngineId) (a : AccSlot) (addr n : Nat) : List Byte :=
  if a.resident then (s.eng e).job.accCache.read addr n else hbm s e addr n
def accWrite (s : State) (e : EngineId) (a : AccSlot) (addr : Nat) (bs : List Byte) : State :=
  if a.resident then sramWrite (s.modJob e (fun j => { j with accCache := j.accCache.write addr bs })) e sramCache addr
  else storeMem s e 0 none addr bs

/-- A read of a run of a group's words; whether they can be used (05 R154, 11 R324). -/
def accFetch (s : State) (e : EngineId) (a : AccSlot) (addr n : Nat) : State × Bool :=
  if a.resident then sramRead s e sramCache addr else (noteMem s e 0 none false addr n, readable s e addr n)

/-- A tile's record, in the record buffer or in the stack; a record of another opening is that of an untouched tile (05 R143). -/
def tileRec (s : State) (e : EngineId) (a : AccSlot) (tile : Nat) : TileRec :=
  let ra := a.recAt s e tile
  let r := parseTile (match AList.get? (s.eng e).job.recBuf ra with
    | some v => v
    | none => hbmNat s e ra 16)
  if r.openSeq == a.openSeq then r
  else { openSeq := 0, anchor := 0, overflow := false, nonfinite := false, counts := [0, 0, 0, 0] }

def TileRec.touched (r : TileRec) (a : AccSlot) : Bool := r.openSeq == a.openSeq

/-- 64-bit two's-complement words of a run of elements. -/
def words64 (bs : List Byte) (n : Nat) : List Int := (List.range n).map (fun i => signed (leAt bs (8 * i) 8) 64)
def bytes64 (ws : List Int) : List Byte := ws.flatMap (fun w => leBytes (w % 2 ^ 64).toNat 8)

/-- The main and tail words of G16S tile `i` of a tile; a part that nothing was added to reads as zero (05 R143). -/
def partWords (s : State) (e : EngineId) (a : AccSlot) (r : TileRec) (tile i : Nat) : List Int × List Int :=
  let first := 256 * tile + 64 * i
  if r.counts.getD i 0 == 0 then (List.replicate 64 0, List.replicate 64 0)
  else (words64 (accRead s e a (a.mainAt first) 512) 64,
        if a.wide then words64 (accRead s e a (a.tailAt first) 512) 64 else List.replicate 64 0)

/-! ## Adding a G16S tile (05 R137-R139, R144, R154) -/

def damageSlot (s : State) (e : EngineId) (g : Nat) : State := setSlot s e g { accSlot s e g with damaged := true }

/-- The groups with tiles or records at some bytes of the stack become DAMAGED (05 R154). -/
def damageRange (s : State) (e : EngineId) (at_ : Nat × Nat) : State :=
  ((s.eng e).job.slots.filter (fun p => p.2.state != .free && ((!p.2.resident && p.2.ranges.any (fun r => overlap r at_))
      || overlap (recordRange s e p.2) at_))).foldl (fun s p => damageSlot s e p.1) s

/-- A record leaves the record buffer for the stack; one that cannot be read damages its group (05 R153, 11 R324). -/
def writeBack (s : State) (e : EngineId) (ra : Nat) : State :=
  match AList.get? (s.eng e).job.recBuf ra with
  | none => s
  | some v =>
    let (s, ok) := sramRead s e sramCache ra
    let s := s.modJob e (fun j => { j with recBuf := AList.erase j.recBuf ra })
    if ok then storeMem s e 0 none ra (leBytes v 16) else damageRange s e (ra, 16)

/-- Put a record into the record buffer of 8,192; which one leaves a full buffer is a free value (05 R153). -/
def bufferRecord (s : State) (e : EngineId) (ra v : Nat) : State :=
  let b := (s.eng e).job.recBuf
  let s := if b.length < 8192 || (AList.get? b ra).isSome then s
    else match b[Config.evictedRecord s.freeCount % b.length]? with
      | some p => writeBack (useFree s 1) e p.1
      | none => s
  sramWrite (s.modJob e (fun j => { j with recBuf := AList.set j.recBuf ra v })) e sramCache ra

/-- Bring a tile's record into the record buffer; whether it can be used. A miss reads its granule (05 R153, R154). -/
def fetchRecord (s : State) (e : EngineId) (a : AccSlot) (tile : Nat) : State × Bool :=
  let ra := a.recAt s e tile
  if (AList.get? (s.eng e).job.recBuf ra).isSome then sramRead s e sramCache ra
  else
    let s := noteMem (bump s e cntAccRecordMisses 1) e 0 none false ra 16
    if readable s e ra 16 then (bufferRecord s e ra (hbmNat s e ra 16), true) else (s, false)

/-- The anchor byte of a tile at its first touch; none where the table cannot be read (05 R144). -/
def firstAnchor (s : State) (e : EngineId) (a : AccSlot) (tile : Nat) : State × Option Nat :=
  if !a.anchorTab then (s, some a.anchor)
  else
    let at_ := a.anchorBase + tile
    (noteMem s e 0 none false at_ 1, if readable s e at_ 1 then some (hbmNat s e at_ 1) else none)

/-- Write a tile's record, and set the slot's flags and counts of flagged tiles from it. -/
def putTile (s : State) (e : EngineId) (g tile : Nat) (r : TileRec) : State :=
  let a := accSlot s e g
  let old := tileRec s e a tile
  let s := bufferRecord s e (a.recAt s e tile) r.word
  setSlot s e g { a with
    nonfinite := a.nonfinite || r.nonfinite, overflow := a.overflow || r.overflow
    badTiles := a.badTiles + b2n (r.nonfinite && !old.nonfinite), overTiles := a.overTiles + b2n (r.overflow && !old.overflow) }

/-- The flags and counts of a tile depend on the set of its contributions alone (05 R138, R139): whatever its anchor and its exponent,
each is counted, and the 65,537th of a G16S tile overflows it. -/
def TileRec.take (r : TileRec) (i expo : Nat) (ovf : Bool) : TileRec :=
  let n := r.counts.getD i 0
  { r with counts := r.counts.set i (min 65537 (n + 1)), nonfinite := r.nonfinite || expo == 0xff || r.anchor == 0 || r.anchor == 0xff,
           overflow := r.overflow || 65536 ≤ n || ovf }

/-- Add the mantissas of one G16S tile under its record; whether every granule could be read (05 R137-R139, R144, R154). A contribution that
loses bits is counted whether or not the count limit still lets it be added, so that the count is one over the set (R137). -/
def addTile (s : State) (e : EngineId) (g tile i expo : Nat) (mants : List Nat) (r : TileRec) : State × Bool :=
  let a := accSlot s e g
  let n := r.counts.getD i 0
  if expo == 0xff || r.anchor == 0 || r.anchor == 0xff then (putTile s e g tile (r.take i expo false), true)
  else
    let first := 256 * tile + 64 * i
    let (s, ok) := if n == 0 || 65536 ≤ n then (s, true) else accFetch s e a (a.mainAt first) 512
    let (s, ok') := if n == 0 || 65536 ≤ n || !a.wide then (s, true) else accFetch s e a (a.tailAt first) 512
    if !(ok && ok') then (damageSlot s e g, false)
    else
      let (main, tail) := partWords s e a r tile i
      let sh : Int := (expo : Int) - r.anchor + 33
      let es := (mants.zip (main.zip tail)).map (fun p => addElem a.wide (signed p.1 16) sh p.2.1 p.2.2)
      let s := if es.any (·.2.2.2) then bump s e cntAccTruncated 1 else s
      let s := if 65536 ≤ n then s
        else
          let s := accWrite s e a (a.mainAt first) (bytes64 (es.map (·.1)))
          let s := if a.wide then accWrite s e a (a.tailAt first) (bytes64 (es.map (·.2.1))) else s
          bump s e (if a.resident then cntAccTilesCached else cntAccTilesHbm) 1
      (putTile s e g tile (r.take i expo (es.any (·.2.2.1))), true)

/-- Absorb one G16S tile that starts at an element: it is counted in every case (05 R138, R148). Whether everything that it needed could
be read. -/
def absorbTile (s : State) (e : EngineId) (g elem expo : Nat) (mants : List Nat) : State × Bool :=
  let a := accSlot s e g
  let s := setSlot s e g { a with absorbed := a.absorbed + 1 }
  let tile := elem / 256
  let i := elem % 256 / 64
  let (s, ok) := fetchRecord s e a tile
  if !ok then (damageSlot s e g, false)
  else
    let old := tileRec s e a tile
    if old.touched a then addTile s e g tile i expo mants old
    else match firstAnchor s e a tile with
      | (s, none) => (damageSlot s e g, false)
      | (s, some anchor) => addTile s e g tile i expo mants
          { openSeq := a.openSeq, anchor := anchor, overflow := false, nonfinite := false, counts := [0, 0, 0, 0] }

/-- What COUNT_EN adds for a number of absorbed tiles (05 R148). -/
def countAbsorbed (s : State) (e : EngineId) (g n : Nat) : State :=
  let a := accSlot s e g
  if a.countEn then addArrival s e a.counter n false else s

/-! ## Slots (05 R143, R145) -/

/-- The last STEP of a FREE slot. -/
def lastStepOf (s : State) (e : EngineId) (a : AccSlot) : Nat := max a.lastStep (s.eng e).job.committed

/-- A slot kept across the restart of the OPEN_SEQ counter. -/
def keptAcrossWrap (s : State) (e : EngineId) (a : AccSlot) : Bool := a.elements != 0 && (s.eng e).job.openSeq ≤ a.openSeq

/-- The records of a slot's range that are in the record buffer. -/
def buffered (s : State) (e : EngineId) (a : AccSlot) : List Nat :=
  let rr := recordRange s e a
  ((s.eng e).job.recBuf.map (·.1)).filter (fun ra => rr.1 ≤ ra && ra < rr.1 + rr.2)

/-- A slot becomes FREE: its reservation ends, and records kept across the wrap are zero-filled (05 R143, R153). -/
def freeSlot (s : State) (e : EngineId) (g : Nat) : State :=
  let a := accSlot s e g
  let rr := recordRange s e a
  let s := if keptAcrossWrap s e a then zeroHbm s e rr.1 rr.2 else s
  let gone := buffered s e a
  let s := s.modJob e (fun j => { j with
    recBuf := j.recBuf.filter (fun p => !gone.contains p.1)
    accCache := if a.resident then a.ranges.foldl (fun m r => m.clear r.1 r.2) j.accCache else j.accCache })
  setSlot s e g { a with state := .free }

def liveSlots (s : State) (e : EngineId) : List AccSlot :=
  ((s.eng e).job.slots.map (·.2)).filter (fun a => a.state != .free)

/-- Tile space of a group in bytes. -/
def AccSlot.space (a : AccSlot) : Nat := a.elements / 256 * (if a.wide then 4096 else 2048)

/-- Restart the OPEN_SEQ counter where it would wrap (05 R143). -/
def restartSeq (s : State) (e : EngineId) : State :=
  if (s.eng e).job.openSeq < 2 ^ 32 then s
  else
    let rr := accRecords s e
    let keep := ((liveSlots s e).filter (fun a => a.elements != 0)).map (fun a =>
      let r := recordRange s e a
      (r.1, hbm s e r.1 r.2))
    let s := zeroHbm s e rr.1 rr.2
    (keep.foldl (fun s k => setHbm s e k.1 k.2) s).modJob e (fun j => { j with openSeq := 1 })

/-! ## ACCOPEN (05 R140, R146) -/

/-- The slot that a group descriptor opens; none where R140 refuses it. -/
def parseGroup (s : State) (e : EngineId) (g step : Nat) (bs : List Byte) : Option AccSlot :=
  let d := leNat bs
  let mode := bit d 466
  let wide := bit d 467
  let elems := bits d 463 434
  if bits d 475 472 != 0xe || !(bits d 471 468 == 0 || bits d 471 468 == 0xe) || bits d 511 476 % 2048 != 0
      || elems % 256 != 0 || 2 ^ 29 < elems || (!mode && (bits d 433 426 == 0 || bits d 433 426 == 0xff))
      || (wide && bits d 379 344 % 2048 != 0) || bits d 343 0 != 0 then none
  else
    let old := accSlot s e g
    some { AccSlot.init with
      state := .opened, step := step, mapGen := genOf s e, openSeq := 0, lastStep := step,
      openedGens := (step, genOf s e) :: old.openedGens, accBase := bits d 511 476, tailBase := bits d 379 344, elements := elems,
      wide := wide, anchorTab := mode, anchor := bits d 433 426, anchorBase := bits d 425 390, resident := bit d 465,
      countEn := bit d 464, counter := bits d 389 380, sealFormat := bits d 471 468 }

/-- A range lies in the region proper. -/
def inRegion (s : State) (e : EngineId) (r : Nat × Nat) : Bool :=
  r.2 == 0 || (reg s e regAccRegionBase ≤ r.1 && r.1 + r.2 ≤ reg s e regAccRegionBase + reg s e regAccRegionSize)

/-- The conditions of 05 R146 and 06 R190 on the step and the ranges. -/
def canOpen (s : State) (e : EngineId) (g : Nat) (a : AccSlot) : Bool :=
  let old := accSlot s e g
  let c := (s.eng e).job.committed
  old.state == .free && a.ranges.all (inRegion s e)
  && a.ranges.all (fun r => (liveSlots s e).all (fun b => b.ranges.all (fun q => !overlap r q)))
  && (a.step == c + 1 || a.step == c + 2) && !old.openedGens.contains (a.step, genOf s e)

/-- Open a group; a RESIDENT one that does not fit the free cache opens non-resident (05 R143, R146, R153). -/
def openSlot (s : State) (e : EngineId) (g : Nat) (a : AccSlot) : State :=
  if a.elements == 0 then setSlot s e g { a with resident := false }
  else
    let s := restartSeq s e
    let used := ((liveSlots s e).filter (·.resident)).foldl (fun n b => n + b.space) 0
    let fits := used + a.space ≤ 3968 * 1024
    let s := if a.resident && !fits then bump s e cntAccResidentDenied 1 else s
    let seq := (s.eng e).job.openSeq
    let s := s.modJob e (fun j => { j with openSeq := j.openSeq + 1 })
    setSlot s e g { a with openSeq := seq, resident := a.resident && fits }

/-- ACCOPEN at dispatch. -/
def beginAccopen (s : State) (e : EngineId) (i : RawInstr) : State :=
  let g := i.f3 5 0
  let d := i.f1 15 0
  if i.f1 63 16 != 0 || i.body.w2 != 0 || i.f3 31 6 != 0 || reg s e regDescCount ≤ d then endNow s e i 1 0x60 4
  else if !descReadable s e d 1 then endNow s e i 1 0x40 5
  else match parseGroup s e g (i.f3 63 32) ((descEntry s e d).getD []) with
    | none => endNow s e i 1 0x60 5
    | some a =>
      if !canOpen s e g a then endNow s e i 1 0x60 5
      else endNow (openSlot s e g a) e i 1 (if a.elements == 0 then 0x01 else 0x00) 0

/-! ## Closing (05 R151) -/

/-- The first status of 05 R151's list that applies. -/
def AccSlot.closeStatus (a : AccSlot) : Nat :=
  if a.incomplete then 0x10 else if a.damaged then 0x40 else if a.nonfinite then 0x20 else if a.overflow then 0x21
  else if a.empty then 0x01 else 0x00

/-- Close an OPEN group: its records leave the record buffer, and its flagged tiles are counted (05 R153, R158). -/
def closeGroup (s : State) (e : EngineId) (g : Nat) (incomplete : Bool) : State :=
  let s := (buffered s e (accSlot s e g)).foldl (fun s ra => writeBack s e ra) s
  let a := accSlot s e g
  let s := bump s e cntAccNonfiniteTiles a.badTiles
  let s := bump s e cntAccOverflowTiles a.overTiles
  setSlot s e g { a with state := .closed, incomplete := incomplete, empty := a.absorbed == 0 }

/-- Go on with an ACCCLOSE in flight: it ends with its group's status once the group closes. So does a second one that waits on the group
(notes/assumptions/61.md, DESIGN CHOICE). -/
def tryClose (s : State) (e : EngineId) (id g expected : Nat) : State :=
  let a := accSlot s e g
  let done := fun (s : State) => endWork s e id (accSlot s e g).closeStatus
  match a.state with
  | .free => endWork s e id 0x60
  | .closed => done s
  | .opened =>
    if expected == 0 || a.absorbed == expected then done (closeGroup s e g false)
    else if expected < a.absorbed then
      let s := if (s.eng e).iss.ops.any (fun o => o.id == id && o.raised) then s
        else raiseOp (modOp s e id (fun o => { o with raised := true })) e id evCloseExcess 2 0x10
          (put a.absorbed 32 0 + put expected 32 32)
      done (closeGroup s e g true)
    else s

/-- The closings that wait on a group, after it has changed. -/
def settleClosing (s : State) (e : EngineId) (g : Nat) : State :=
  (s.eng e).iss.ops.foldl (fun s o => match o.work with
    | .closing h x => if h == g then tryClose s e o.id g x else s
    | _ => s) s

/-- ACCCLOSE at dispatch, DISCARD among it (05 R145, R151). -/
def beginAccclose (s : State) (e : EngineId) (i : RawInstr) : State :=
  let g := i.f3 5 0
  let a := accSlot s e g
  if i.body.w1 != 0 || i.f2 63 32 != 0 || i.f3 63 9 != 0 || i.f3 7 6 != 0 then endNow s e i 1 0x60 4
  else if i.f3 8 8 == 1 then
    if a.state == .free then endNow s e i 1 0x01 6 else settleClosing (endNow (freeSlot s e g) e i 1 0x00 0) e g
  else if a.state != .opened then endNow s e i 1 0x60 5
  else
    settleClosing (launch s e i none 1 (.closing g (i.f2 31 0))) e g

/-- ACC_CLOSE_TIMEOUT: a group whose closing still waits closes INCOMPLETE (05 R151). -/
def execAccCloseTimeout (e : EngineId) (group : BitVec 6) (s : State) : Out :=
  let g := group.toNat
  let waits := (s.eng e).iss.ops.any (fun o => match o.work with | .closing h _ => h == g | _ => false)
  if waits && (accSlot s e g).state == .opened then .next (settleClosing (closeGroup s e g true) e g) else .next s

/-! ## ACCUM (05 R150) -/

/-- Bytes `at_` to `at_ + n - 1` of the byte run that a walk makes: element addresses, with what part of each is used. -/
def Walk.piece (w : Walk) (b : Nat) : Int := w.addr (b / 2 ^ w.elog) + ((b % 2 ^ w.elog : Nat) : Int)

/-- A byte of a walk; none where it cannot be read or lies outside the stack. -/
def walkByte (s : State) (e : EngineId) (w : Walk) (b : Nat) : Option Byte :=
  let a := w.piece b
  if 0 ≤ a && readable s e a.toNat 1 then some ((memBytes s e a.toNat 1).getD 0 0) else none

def walkRun (s : State) (e : EngineId) (w : Walk) (at_ n : Nat) : Option (List Byte) :=
  (List.range n).mapM (fun i => walkByte s e w (at_ + i))

/-- The granules that a run of a walk's bytes lies in. -/
def runGranules (w : Walk) (at_ n : Nat) : List Nat :=
  (((List.range n).map (fun i => w.piece (at_ + i))).filter (0 ≤ ·)).map (fun a => a.toNat / 64) |>.eraseDups

/-- The CLASS 0 reads of a run of a plane, without the granules that the run before it has read (05 R150). -/
def noteRun (s : State) (e : EngineId) (id : Nat) (w : Walk) (at_ n : Nat) : State :=
  let before := if at_ < n then [] else runGranules w (at_ - n) n
  noteReqs s e 0 (some id) false false (((runGranules w at_ n).filter (fun g => !before.contains g)).map (fun g => (g, 0)))

/-- The tiles of an ACCUM, one after another, until the planes, an anchor, or a granule of the group cannot be read, or the group has
closed (05 R144, R150, R151; for the last two notes/assumptions/61.md, DESIGN CHOICE). -/
def accumTiles : Nat → State → EngineId → Nat → Nat → Walk → Walk → Nat → Nat → State
  | 0, s, e, id, _, _, _, _, _ => endWork s e id 0
  | n + 1, s, e, id, g, mw, ew, first, j =>
    if (accSlot s e g).state != .opened then endWork s e id 0x60
    else
      let s := noteRun (noteRun s e id mw (128 * j) 128) e id ew j 1
      match walkRun s e mw (128 * j) 128, walkByte s e ew j with
      | some ms, some x =>
        let (s, ok) := absorbTile s e g (first + 64 * j) x.toNat ((List.range 64).map (fun i => leAt ms (2 * i) 2))
        let s := settleClosing (countAbsorbed s e g 1) e g
        if ok then accumTiles n (unitDone s e id) e id g mw ew first (j + 1) else endWork s e id 0x40
      | _, _ => endWork (damageSlot s e g) e id 0x40

def accumUnits (_ : State) (_ : EngineId) (i : RawInstr) : Nat := i.f2 23 0

/-- ACCUM at dispatch: its checks, then its tiles. -/
def beginAccum (s : State) (e : EngineId) (i : RawInstr) : State :=
  let g := i.f3 5 0
  let n := i.f2 23 0
  let first := i.f2 61 32
  if i.f1 63 32 != 0 || i.f2 63 62 != 0 || i.f2 31 24 != 0 || i.f3 63 6 != 0 || first % 64 != 0
      || reg s e regDescCount ≤ i.f1 31 16 || reg s e regDescCount ≤ i.f1 15 0 then endNow s e i n 0x60 4
  else if n == 0 then endNow s e i n 0x01 6
  else if !descReadable s e (i.f1 31 16) 1 || !descReadable s e (i.f1 15 0) 1 then endNow s e i n 0x40 5
  else match walker s e (i.f1 15 0), walker s e (i.f1 31 16) with
    | some mw, some ew =>
      let a := accSlot s e g
      if a.state != .opened || a.elements < first + 64 * n || mw.bytes < 128 * n || ew.bytes < n then endNow s e i n 0x60 5
      else
        let id := nextOp s e
        let s := launch s e i none n .ended
        accumTiles n s e id g mw ew first 0
    | _, _ => endNow s e i n 0x60 5

/-- ACCUM adds tiles of this engine's stack to an open group (05 R150). -/
def execAccum (i : EngineInstr) (s : State) : Out := .next (route accumUnits beginAccum (rowInstr 0x21 i 0 0) s)

/-- ACCCLOSE closes a group (05 R151). -/
def execAccclose (i : EngineInstr) (s : State) : Out := .next (route noUnits beginAccclose (rowInstr 0x22 i 0x100 0) s)

/-- ACCCLOSE with DISCARD frees a group (05 R145). -/
def execAcccloseDiscard (i : EngineInstr) (s : State) : Out :=
  .next (route noUnits beginAccclose (rowInstr 0x22 i 0x100 0x100) s)

/-! ## ACCUM_WRITE (05 R145, R147-R149) -/

/-- What a slot makes of an ACCUM_WRITE. -/
inductive AccVerdict where
  | wait
  | late
  | stale
  | invalid
  | absorb
deriving DecidableEq, Repr

/-- PAIR, EXP_0 and EXP_1. -/
def chunkPair (c : Chunk) : Nat := bits c.elementOffset 37 16
def chunkExp0 (c : Chunk) : Nat := bits c.elementOffset 15 8
def chunkExp1 (c : Chunk) : Nat := bits c.elementOffset 7 0

def accVerdict (s : State) (e : EngineId) (c : Chunk) : AccVerdict :=
  let a := accSlot s e c.group
  let step := c.step.toNat
  let own := if a.state == .free then lastStepOf s e a else a.step
  if own < step then .wait
  else if a.state != .opened || step < own then .late
  else if c.mapGen != a.mapGen then .stale
  else if !(c.length.toNat == 128 || c.length.toNat == 256) || (c.length.toNat == 128 && chunkExp1 c != 0)
      || a.elements < 128 * chunkPair c + c.length.toNat / 2 then .invalid
  else .absorb

/-- NAK 0x60 to a contribution (05 R145, R147). -/
def lateNak (s : State) (e : EngineId) (c : Chunk) (record : Bool) : State :=
  let s := if record then raise s e evLateChunk 2 (put c.srcChip.toNat 13 16 + put c.group 6 0) else s
  nak (bump s e cntAccLateNaks 1) e c 0x60

/-- Perform an ACCUM_WRITE that need not wait. -/
def performAccum (s : State) (e : EngineId) (c : Chunk) : State :=
  match accVerdict s e c with
  | .wait => s
  | .late => lateNak s e c true
  | .stale => nak s e c 0x12
  | .invalid => lateNak s e c false
  | .absorb =>
    let g := c.group
    let tile := fun (s : State) (i x : Nat) =>
      (absorbTile s e g (128 * chunkPair c + 64 * i) x ((List.range 64).map (fun k => leAt c.payload (128 * i + 2 * k) 2))).1
    let s := tile s 0 (chunkExp0 c)
    let s := if c.length.toNat == 256 then tile s 1 (chunkExp1 c) else s
    let s := countAbsorbed s e g (c.length.toNat / 128)
    settleClosing (answer s e c kindGparityAck 0 c.step.toNat []) e g

/-! ## What SEAL receives (05 R152) and the peek (05 R156) -/

/-- The reads of a closed group's records, and of the words of its tiles that carry no flag; whether all could be used (05 R152, R154). -/
def sealFetch (s : State) (e : EngineId) (a : AccSlot) : State × Bool :=
  let rr := recordRange s e a
  let s := noteMem s e 0 none false rr.1 rr.2
  if !readable s e rr.1 rr.2 then (s, false)
  else (List.range (a.elements / 256)).foldl (fun t tile =>
    let r := tileRec t.1 e a tile
    if r.flagged then t
    else (List.range 4).foldl (fun t i =>
      if r.counts.getD i 0 == 0 then t
      else
        let (s, ok) := accFetch t.1 e a (a.mainAt (256 * tile + 64 * i)) 512
        let (s, ok') := if a.wide then accFetch s e a (a.tailAt (256 * tile + 64 * i)) 512 else (s, true)
        (s, t.2 && ok && ok')) t) (s, true)

/-- The exact value of an element: main * 2^(E_a - 47) + tail * 2^(E_a - 94). -/
def elemValue (anchor : Nat) (main tail : Int) : Val :=
  let x := main * 2 ^ 47 + tail
  .fin (x < 0) x.natAbs ((anchor : Int) - 127 - 94)

/-- The 256 exact values of a tile; zeros where it is untouched. -/
def tileValues (s : State) (e : EngineId) (a : AccSlot) (tile : Nat) : List Val :=
  let r := tileRec s e a tile
  (List.range 4).flatMap (fun i =>
    let (m, t) := partWords s e a r tile i
    (m.zip t).map (fun p => elemValue r.anchor p.1 p.2))

/-- The 32 bytes of *ACC_PEEK*: main word, tail word, tile record; none where R157 answers 0x04. The words of a flagged tile
are free (05 R139). -/
def accPeek (s : State) (e : EngineId) (slot elem : Nat) : Option (List Byte) :=
  let a := accSlot s e slot
  if a.state == .free || a.elements ≤ elem then none
  else
    let r := tileRec s e a (elem / 256)
    let (m, t) := partWords s e a r (elem / 256) (elem % 256 / 64)
    let w := if r.flagged then leBytes (Config.flaggedWord s.freeCount).toNat 8 ++ leBytes (Config.flaggedWord (s.freeCount + 1)).toNat 8
      else bytes64 [m.getD (elem % 64) 0, t.getD (elem % 64) 0]
    some (w ++ leBytes r.word 16)

end Sys2Proof.Machine
end

