-- ==== Sys2Proof/Machine/Archive.lean ====
section
/-!
DEFINITION. The pane archive: what a staged generation holds of each row, the layout of manifest, side area, index and panes,
and how an archive is read back (10 R279, R284, R292-R296).
-/

namespace Sys2Proof.Machine

open Sys2Proof

/-! ## What a generation holds -/

/-- A row in a generation. -/
inductive Archive.Row where
  | absent
  | notHeld
  | held (ledger : Nat) (content : List Byte)
deriving DecidableEq, Repr

/-- The windows that a generation covers, ascending (10 R280). -/
def Archive.windows (e : EngineId) (g : Staged) : List Window :=
  (g.map.windows.filter (fun w => w.engine == e.val && w.cls != 1)).mergeSort (fun a b => a.number ≤ b.number)

/-- The rows of a window that carry bytes, ascending: those present and held at the release (10 R284, R288, R291). -/
def Archive.heldRows (g : Staged) (w : Window) : List Nat := AList.getD g.held w.number []

/-- A pane of a window that is named by a staged pane. -/
def Archive.isPane (w : Window) (r : Nat) (p : StagedPane) : Bool := p.window == w.number && p.row == r

/-- A row as it stood at the aperture: copied or set aside, or else unchanged until it is silvered (10 R284, R288, R291). -/
def Archive.row (s : State) (e : EngineId) (g : Staged) (w : Window) (r : Nat) : Archive.Row :=
  if g.notHeld.contains (w.number, r) then .notHeld
  else if !(Archive.heldRows g w).contains r then .absent
  else match g.panes.find? (Archive.isPane w r) with
    | some p => .held p.ledger p.content
    | none => .held (leNat (winRead s e w (w.ledgerAt r) 8)) (winRead s e w (w.paneAt r) 4096)

/-- The archive pane of a row has been written: SILVER, or a silver-ahead, has reached it. -/
def Archive.silvered (g : Staged) (w : Window) (r : Nat) : Bool := g.silver.any (fun p => p.window == w.number && p.row == r)

/-! ## Layout (10 R292-R295) -/

/-- Panes that a number of bytes takes. -/
def panesFor (n : Nat) : Nat := (n + 4095) / 4096

def Archive.indexPanes (w : Window) : Nat := (w.length + 63) / 64

/-- The first index pane, first held pane and held rows of each window, in the order of the window table. -/
def Archive.sections (e : EngineId) (g : Staged) : List (Window × Nat × Nat × List Nat) :=
  ((Archive.windows e g).foldl (fun (t : Nat × List (Window × Nat × Nat × List Nat)) w =>
    let rows := Archive.heldRows g w
    let data := t.1 + Archive.indexPanes w
    (data + rows.length, t.2 ++ [(w, t.1, data, rows)])) (1 + panesFor g.side.length, [])).2

/-- Panes of the archive, the manifest included. -/
def Archive.size (e : EngineId) (g : Staged) : Nat :=
  match (Archive.sections e g).getLast? with
  | none => 1 + panesFor g.side.length
  | some (_, _, data, rows) => data + rows.length

/-- A side record: header, content, padding (10 R295). -/
def Archive.record (type : Nat) (content : List Byte) : List Byte :=
  leBytes (put type 16 240 + put content.length 32 192) 32 ++ content ++ zeros ((32 - content.length % 32) % 32)

/-- The index entry of a row (10 R293). -/
def Archive.entry (r : Archive.Row) (offset : Nat) : List Byte :=
  match r with
  | .absent => leBytes (put (leNat (blake3 (zeros 4096))) 256 256 + put 0xffffffff 32 160) 64
  | .notHeld => leBytes (put 0xfffffffe 32 160) 64
  | .held ledger content => leBytes (put (leNat (blake3 content)) 256 256 + put ledger 64 192 + put offset 32 160) 64

/-- The index entry of a row of a generation: of a silvered pane as it was written. -/
def Archive.entryOf (s : State) (e : EngineId) (g : Staged) (x : Window × Nat × Nat × List Nat) (r : Nat) : List Byte :=
  let offset := x.2.2.1 + (x.2.2.2.findIdx? (· == r)).getD 0
  match g.silver.find? (fun p => p.window == x.1.number && p.row == r) with
  | some p => leBytes (put (leNat p.digest) 256 256 + put p.ledger 64 192 + put offset 32 160) 64
  | none => Archive.entry (Archive.row s e g x.1 r) offset

/-- The bytes of a section's index. -/
def Archive.index (s : State) (e : EngineId) (g : Staged) (x : Window × Nat × Nat × List Nat) : List Byte :=
  let bs := (List.range x.1.length).flatMap (Archive.entryOf s e g x)
  bs ++ zeros (4096 * Archive.indexPanes x.1 - bs.length)

/-- The side area as panes. -/
def Archive.sideArea (g : Staged) : List Byte := g.side ++ zeros (4096 * panesFor g.side.length - g.side.length)

/-- The window table (10 R292). -/
def Archive.table (xs : List (Window × Nat × Nat × List Nat)) : List Byte :=
  slice (xs.flatMap (fun x => leBytes (put x.1.number 4 124 + put x.1.cls 2 122 + put x.1.length 32 64 + put x.2.1 32 32
    + put x.2.2.1 32 0) 16)) 0 256

/-- The manifest pane (10 R292). -/
def Archive.manifest (s : State) (e : EngineId) (g : Staged) : List Byte :=
  let xs := Archive.sections e g
  let head := put 0x435a5041 32 2016 + put 1 16 2000 + put g.jobId.toNat 16 1984 + put g.jobGen 32 1952 + put g.gen 32 1920
    + put g.step 32 1888 + put g.mapGen.toNat 16 1872 + put g.setId 16 1856 + put g.slot 6 1850 + put e.val 4 1846
    + put s.group.lc.chipId 13 1833 + put (b2n g.shadow) 1 1832 + put xs.length 8 1824 + put g.map.k 8 1816 + put g.map.g 8 1808
    + put g.map.m 8 1800 + put g.map.n 8 1792 + put (Archive.size e g) 32 1760 + put (panesFor g.side.length) 32 1728
    + put g.time.toNat 64 1664
  let ind := blake3 (Archive.sideArea g ++ xs.flatMap (Archive.index s e g))
  let body := ind ++ (leBytes head 256).drop 64 ++ Archive.table xs
  blake3 body ++ body ++ zeros 3584

/-- The held row that pane `k` of the archive carries. -/
def Archive.rowAt (e : EngineId) (g : Staged) (k : Nat) : Option (Window × Nat) :=
  (Archive.sections e g).findSome? (fun x =>
    if x.2.2.1 ≤ k then (x.2.2.2[k - x.2.2.1]?).map (fun r => (x.1, r)) else none)

/-- The archive pane of a held row. -/
def Archive.paneOf (e : EngineId) (g : Staged) (w : Window) (r : Nat) : Option (Nat × Nat) :=
  (Archive.sections e g).findSome? (fun x =>
    if x.1.number == w.number then (x.2.2.2.findIdx? (· == r)).map (fun i => (x.2.2.1 + i, x.2.1)) else none)

/-- Pane `k` of the archive, from pane 1 on. -/
def Archive.pane (s : State) (e : EngineId) (g : Staged) (k : Nat) : List Byte :=
  if k ≤ panesFor g.side.length then slice g.side (4096 * (k - 1)) 4096
  else match Archive.rowAt e g k with
    | some (w, r) => match Archive.row s e g w r with
      | .held _ c => c
      | _ => zeros 4096
    | none => match (Archive.sections e g).find? (fun x => x.2.1 ≤ k && k < x.2.2.1) with
      | some x => slice (Archive.index s e g x) (4096 * (k - x.2.1)) 4096
      | none => zeros 4096

/-- The panes of the archive in the order in which SILVER writes them: side area, held panes, index sections (10 R287, step 2 gives
none; notes/assumptions/52.md, DESIGN CHOICE). -/
def Archive.order (e : EngineId) (g : Staged) : List Nat :=
  let xs := Archive.sections e g
  (List.range (panesFor g.side.length)).map (· + 1)
  ++ xs.flatMap (fun x => (List.range x.2.2.2.length).map (· + x.2.2.1))
  ++ xs.flatMap (fun x => (List.range (x.2.2.1 - x.2.1)).map (· + x.2.1))

/-! ## Reading an archive back (10 R296, R299, R300) -/

/-- Where a slot starts in the tier, in bytes (10 R279). -/
def Archive.base (s : State) (e : EngineId) (slot : Nat) : Nat :=
  4096 * reg s e (if slot % 2 == 0 then regArchiveBase0 else regArchiveBase1)

/-- The manifest bytes of a slot. -/
def Archive.read (s : State) (e : EngineId) (slot : Nat) : List Byte := tierRead s (Archive.base s e slot) 512

/-- What a manifest says. -/
structure Manifest where
  magic    : Nat
  format   : Nat
  gen      : Nat
  step     : Nat
  setId    : Nat
  slot     : Nat
  windows  : Nat
  geo      : Nat × Nat × Nat × Nat
  panes    : Nat
  side     : Nat
  index    : List Byte
  digest   : List Byte
  table    : List (Nat × Nat × Nat × Nat × Nat)
deriving DecidableEq, Repr

def parseManifest (bs : List Byte) : Manifest :=
  let h := leAt bs 0 256
  { magic := bits h 2047 2016, format := bits h 2015 2000, gen := bits h 1951 1920, step := bits h 1919 1888,
    setId := bits h 1871 1856, slot := bits h 1855 1850, windows := bits h 1831 1824,
    geo := (bits h 1823 1816, bits h 1815 1808, bits h 1807 1800, bits h 1799 1792), panes := bits h 1791 1760,
    side := bits h 1759 1728, index := slice bs 32 32, digest := slice bs 0 32,
    table := (List.range (min 16 (bits h 1831 1824))).map (fun i =>
      let t := leAt bs (256 + 16 * i) 16
      (bits t 127 124, bits t 123 122, bits t 95 64, bits t 63 32, bits t 31 0)) }

/-- A manifest by itself is valid (10 R296). -/
def manifestGood (bs : List Byte) : Bool :=
  let m := parseManifest bs
  m.magic == 0x435a5041 && m.format == 1 && blake3 (slice bs 32 480) == m.digest

/-- Pane `k` of a slot. -/
def Archive.slotPane (s : State) (e : EngineId) (slot k : Nat) : List Byte := tierRead s (Archive.base s e slot + 4096 * k) 4096

/-- Side area and index sections of a stored archive. -/
def Archive.indexed (s : State) (e : EngineId) (slot : Nat) (m : Manifest) : List Byte :=
  tierRead s (Archive.base s e slot + 4096) (4096 * m.side)
  ++ m.table.flatMap (fun t => tierRead s (Archive.base s e slot + 4096 * t.2.2.2.1) (4096 * ((t.2.2.1 + 63) / 64)))

/-- The archive in a slot is valid (10 R296). -/
def Archive.valid (s : State) (e : EngineId) (slot : Nat) : Bool :=
  let bs := Archive.read s e slot
  let m := parseManifest bs
  manifestGood bs && blake3 (Archive.indexed s e slot m) == m.index

/-- The record of a type in a side area. -/
def Archive.sideRecord : Nat → Nat → List Byte → Option (List Byte)
  | 0, _, _ => none
  | n + 1, type, bs =>
    let h := leAt bs 0 32
    let len := bits h 223 192
    if bits h 255 240 == 0 then none
    else if bits h 255 240 == type then some (slice bs 32 len)
    else Archive.sideRecord n type (bs.drop (32 + (len + 31) / 32 * 32))

/-- The index entry of a row in a stored archive: DIGEST, LEDGER and OFFSET. -/
def Archive.entryAt (s : State) (e : EngineId) (slot indexFirst r : Nat) : List Byte × Nat × Nat :=
  let bs := tierRead s (Archive.base s e slot + 4096 * indexFirst + 64 * r) 64
  let v := leNat bs
  (slice bs 32 32, bits v 255 192, bits v 191 160)

/-- A held pane to be sent: window, row, ledger word, archive pane and digest. -/
structure Archive.Held where
  window : Nat
  row    : Nat
  ledger : Nat
  offset : Nat
  digest : List Byte
deriving DecidableEq, Repr

/-- The held panes of a stored archive, in the order of its index. -/
def Archive.heldOf (s : State) (e : EngineId) (slot : Nat) (m : Manifest) : List Archive.Held :=
  m.table.flatMap (fun t => (List.range t.2.2.1).filterMap (fun r =>
    let x := Archive.entryAt s e slot t.2.2.2.1 r
    if x.2.2 < 0xfffffffe then
      some { window := t.1, row := r, ledger := x.2.1, offset := x.2.2, digest := x.1 : Archive.Held }
    else none))

end Sys2Proof.Machine
end

