-- ==== Sys2Proof/Machine/Panes.lean ====
section
/-!
DEFINITION. Panes of coded windows on the move: the holders of a row, the sender's order from delta to stamp (07 R191, R198,
R199), the gather slots of a holder (07 R194) and the fold (07 R195-R200, 08 R232), with the set-aside and silver-ahead of
a staged generation (10 R288, R291).
-/

namespace Sys2Proof.Machine

open Sys2Proof

/-! ## Writing a pane -/

/-- An aperture's copy holds coded writes, SWEEP, APPLYPEND, moves and installs that write (10 R285). -/
def copyRuns (s : State) (e : EngineId) : Bool :=
  match (s.eng e).snap.snap with
  | some g => g.copying
  | none => false

/-- From an aperture's ready report to the end of its copy no sweep runs: its report says that none is under way (10 R283, R285). -/
def apertureStands (s : State) (e : EngineId) : Bool :=
  copyRuns s e || (s.eng e).iss.ops.any (fun o => match o.work with
    | .aperture _ _ ready _ _ => ready
    | _ => false)

/-- From an APERTURE's dispatch to the end of its copy the coded-write path accepts nothing, and no move begins (10 R282, R285). -/
def apertureHolds (s : State) (e : EngineId) : Bool :=
  copyRuns s e || (s.eng e).iss.ops.any (fun o => match o.work with
    | .aperture _ _ _ _ _ => true
    | _ => false)

/-- Before a write to a STATE pane of a generation staged in shadow mode: a pane neither set aside nor silvered is set aside with its
ledger entry (10 R291). -/
def beforeWrite (s : State) (e : EngineId) (w : Window) (row : Nat) : State :=
  match (s.eng e).snap.snap with
  | none => s
  | some g =>
    if w.cls == 0 && w.isHot && g.shadow && (Archive.heldRows g w).contains row && !g.panes.any (Archive.isPane w row)
        && !Archive.silvered g w row then
      let held : StagedPane :=
        { window := w.number, row := row, ledger := leNat (winRead s e w (w.ledgerAt row) 8),
          content := winRead s e w (w.paneAt row) 4096 }
      let s := noteMem s e 3 none false (w.paneAt row) 4096
      bump (s.modSnap e (fun x => { x with snap := some { g with panes := g.panes ++ [held] } })) e cntShadowSetAside 1
    else s

/-- Write granules of a pane, with the armed flip-mask applied after any delta was formed (11 R326). -/
def writePane (s : State) (e : EngineId) (w : Window) (row : Nat) (granules : List Nat) (content : List Byte) : State :=
  let s := beforeWrite s e w row
  let (s, content) := if w.isHot then flipPane s e w.number row granules content else (s, content)
  if 64 ≤ granules.length then winWrite s e w (w.paneAt row) (slice content 0 4096)
  else granules.foldl (fun s g => winWrite s e w (w.paneAt row + 64 * g) (slice content (64 * g) 64)) s

def allGranules : List Nat := List.range 64

/-- A pane that the engine has declared lost and not yet rebuilt: a write into it carries POISON (01 R17). -/
def paneLost (s : State) (e : EngineId) (window row : Nat) : Bool := (s.eng e).reb.lostRows.contains (window, row)

/-- The controller stores granules as poisoned (01 R18). -/
def poisonGranules (s : State) (e : EngineId) (gs : List Nat) : State :=
  s.modMem e (fun m => { m with health := gs.foldl (fun h g => AList.set h g .poisoned) m.health })

/-- Write granules of a hot pane through the memory-side port. -/
def storePane (s : State) (e : EngineId) (cls : Nat) (w : Window) (row : Nat) (granules : List Nat) (content : List Byte) : State :=
  let s := writePane s e w row granules content
  let gs := granules.map (· + 64 * (w.base + row))
  let lost := paneLost s e w.number row
  let s := if lost then poisonGranules s e gs else s
  noteReqs s e cls none true lost (gs.map (fun g => (g, BitVec.allOnes 64)))

/-- Write a hot pane's ledger entry through the memory-side port. -/
def storeLedger (s : State) (e : EngineId) (cls : Nat) (w : Window) (row : Nat) (l : Ledger) : State :=
  noteMem (setLedger s e w row l) e cls none true (w.ledgerAt row) 8

/-- Make a hot pane present; the map bit is a write of the presence map (03 R102, 11 R326). -/
def bringPresent (s : State) (e : EngineId) (w : Window) (row : Nat) : State :=
  if rowPresent s e w row then s
  else
    let s := makePresent s e w row
    let s := noteMem s e 1 none true (w.paneAt row) 4096
    let s := noteMem s e 1 none true (w.ledgerAt row) 8
    let s := noteMem s e 1 none true (w.bitAt row) 1
    sramWrite s e sramPresence (w.base + row)

/-! ## Changes to a cold pane (03 R102, 08 R231, 10 R288) -/

/-- The generation in whose archive a cold pane must be written before it changes. -/
def mustSilver (s : State) (e : EngineId) (w : Window) (row : Nat) : Option Staged :=
  match (s.eng e).snap.snap with
  | some g => if !w.isHot && (Archive.heldRows g w).contains row && !Archive.silvered g w row then some g else none
  | none => none

/-- The newest transfer of an engine for a purpose that `p` selects. -/
def pendingTransfer (s : State) (e : EngineId) (p : TierCont → Bool) : Option Nat :=
  ((s.group.coord.tierReqs.filter (fun t => t.engine == e.val && t.live && p t.cont)).getLast?).map (·.id)

/-- The transfer that empties the manifest pane of a generation's slot, where none has done so yet (10 R287, step 1;
notes/assumptions/52.md, DESIGN CHOICE). -/
def clearManifest (s : State) (e : EngineId) (cls : Nat) (layer : Nat × Nat) (g : Staged) : State × Option Nat :=
  if g.cleared then (s, none)
  else match pendingTransfer s e (fun c => match c with | .ahead _ _ _ entry => !entry | .silver _ => true | _ => false) with
    | some id => (s, some id)
    | none =>
      let id := s.group.coord.tierNext
      (tierStore s e cls layer (Archive.base s e g.gen) (zeros 4096) none (.ahead g.gen 0 0 false), some id)

/-- The silvering that precedes a change to a cold pane, in the class of what causes the change: its content, then its index entry. The
transfer to be awaited (10 R288). -/
def silverAhead (s : State) (e : EngineId) (cls : Nat) (layer : Nat × Nat) (w : Window) (row : Nat) : State × Option Nat :=
  match mustSilver s e w row with
  | none => (s, none)
  | some g =>
    match pendingTransfer s e (fun c => c == .ahead g.gen w.number row true), Archive.paneOf e g w row with
    | some id, _ => (s, some id)
    | none, none => (s, none)
    | none, some (k, first) =>
      let (s, z) := clearManifest s e cls layer g
      let r := s.group.coord.tierNext
      let s := tierAsk s e cls layer (w.paneAt row) 4096 [] false z .part
      let s := tierAsk s e cls layer (w.ledgerAt row) 8 [] false (some r) .part
      let content := winRead s e w (w.paneAt row) 4096
      let s := tierStore s e cls layer (Archive.base s e g.gen + 4096 * k) content (some (r + 1)) .part
      let entry := Archive.entry (.held (leNat (winRead s e w (w.ledgerAt row) 8)) content) k
      let s := tierStore s e cls layer (Archive.base s e g.gen + 4096 * first + 64 * row) entry (some (r + 2))
        (.ahead g.gen w.number row true)
      (s, some (r + 3))

/-- An absent cold pane becomes present before its first write: a pane of zeros, then its ledger entry, then its bit (03 R102). -/
def tierBorn (s : State) (e : EngineId) (cls : Nat) (layer : Nat × Nat) (w : Window) (row : Nat) (after : Option Nat) :
    State × Option Nat :=
  if rowPresent s e w row then (s, after)
  else
    let z := s.group.coord.tierNext
    let s := tierStore s e cls layer (w.paneAt row) (zeros 4096) after .part
    let s := tierStore s e cls layer (w.ledgerAt row) (leBytes (bornLedger s e row).word 8) (some z) (.born w.number row)
    (s, some (z + 1))

/-- Write to a cold pane or its ledger entry, once it has been silvered ahead and is present. -/
def tierChange (s : State) (e : EngineId) (cls : Nat) (layer : Nat × Nat) (w : Window) (row addr : Nat) (bytes : List Byte)
    (cont : TierCont) : State :=
  let (s, a) := silverAhead s e cls layer w row
  let (s, a) := tierBorn s e cls layer w row a
  tierStore s e cls layer addr bytes a cont

/-- Write a cold pane anew with its ledger entry, as a rebuild or a load does: it becomes present with the last of them (03 R103). -/
def tierAnew (s : State) (e : EngineId) (cls : Nat) (w : Window) (row : Nat) (content : List Byte) (l : Ledger) (cont : TierCont) : State :=
  let (s, a) := silverAhead s e cls (0, 0) w row
  let p := s.group.coord.tierNext
  let s := tierStore s e cls (0, 0) (w.paneAt row) content a .part
  tierStore s e cls (0, 0) (w.ledgerAt row) (leBytes l.word 8) (some p) cont

/-- A ledger entry passes through the ledger cache: an unreadable word is reloaded from the stack (11 R324). -/
def cacheLedger (s : State) (e : EngineId) (w : Window) (row : Nat) : State :=
  cacheItem s e (w.ledgerAt row)

/-- The granules of a pane in which a run of bytes is not zero. -/
def liveGranules (bs : List Byte) : List Nat := allGranules.filter (fun g => (slice bs (64 * g) 64).any (· != 0))

/-! ## Holders -/

/-- A chip of this engine's set in a slot, unless the map calls it lost: ACKED bit `bit`. -/
def holderAt (s : State) (e : EngineId) (bit slot : Nat) : Option (Nat × Nat) :=
  (memberAt s e slot).bind (fun m => if m.state == 2 then none else some (bit, m.chip))

/-- The parity holders of a data column in a row: bit 0 the local one, bit 1 + p the global ones (06 R181). -/
def holderList (s : State) (e : EngineId) (row j : Nat) : List (Nat × Nat) :=
  ((geo s e).holders j).zipIdx.filterMap (fun p => holderAt s e p.2 ((geo s e).slotOf row p.1))

/-- The ACKED bit of this member as a holder of a row. -/
def myBit (s : State) (e : EngineId) (row : Nat) : Nat :=
  let c := columnHere s e row
  if (geo s e).isLocal c then 0 else 1 + (c - (geo s e).k - (geo s e).l)

/-- Rows in a local-erasure range wait for their install (11 R320). -/
def inLocalRange (s : State) (e : EngineId) (window row : Nat) : Bool :=
  (s.eng e).reb.ranges.any (fun p => p.2.local_ && p.2.window == window && p.2.first ≤ row && row ≤ p.2.last)

/-- Rows in an enrolment range whose rebuild bit is clear (09 R259, R260). -/
def notInstalled (s : State) (e : EngineId) (window row : Nat) : Bool :=
  (s.eng e).reb.enrolled && !rebuildBit s e window row

/-- A row whose pane is under reconciliation here (07 R213). -/
def reconAt (s : State) (e : EngineId) (window row : Nat) : Option Recon :=
  (s.eng e).reb.recons.find? (fun r => r.window == window && r.row == row)

/-- A row's pane has been decoded here at its old version and awaits its recomputation. -/
def Recon.standing (r : Recon) : Bool := !r.awaits && !r.done

/-- The content of a pane as this engine's operations find it: the decoded content stands for a pane that awaits its recomputation (07
R213, 08 R241). -/
def rowNow (s : State) (e : EngineId) (w : Window) (row : Nat) : List Byte :=
  match reconAt s e w.number row with
  | some r => if r.standing then r.old else rowBytes s e w row
  | none => rowBytes s e w row

/-- An install reconciles this row (07 R213). -/
def isReconcile (n : Install) : Bool := match n.purpose with | .reconcile _ _ => true | _ => false

/-- A row that is not whole here yet: its pane is not installed, or its reconciliation has not ended (07 R212, 09 R259). -/
def rowHeld (s : State) (e : EngineId) (window row : Nat) : Bool :=
  notInstalled s e window row || (reconAt s e window row).isSome
  || (s.eng e).reb.installs.any (fun n => isReconcile n && n.window == window && n.row == row)

/-- Change a row under reconciliation. -/
def modRecon (s : State) (e : EngineId) (window row : Nat) (f : Recon → Recon) : State :=
  s.modReb e (fun b => { b with recons := b.recons.map (fun r => if r.window == window && r.row == row then f r else r) })

/-! ## Rebuilt panes (03 R103, 09 R259, R260, R265) -/

/-- Rows a window's rebuild bits still lack. -/
def windowRebuilt (s : State) (e : EngineId) (w : Window) : Bool := (List.range w.length).all (rebuildBit s e w.number)

/-- Close an enrolment range whose every bit is set, and report it (09 R260). -/
def closeWindow (s : State) (e : EngineId) (w : Window) : State :=
  let open_ := (s.eng e).reb.ranges.any (fun p => !p.2.local_ && p.2.window == w.number)
  if open_ && windowRebuilt s e w then
    let s := s.modReb e (fun r => { r with ranges := r.ranges.filter (fun p => !(!p.2.local_ && p.2.window == w.number)) })
    let s := raise s e evRebuildWindowDone 0 w.number
    if (s.eng e).reb.ranges.any (fun p => !p.2.local_) then s
    else raise (s.modReb e (fun r => { r with doneRaised := true })) e evRebuildDone 0 0
  else s

/-- Set a row's rebuild bit on an enrolled spare. -/
def markInstalled (s : State) (e : EngineId) (w : Window) (row : Nat) : State :=
  if (s.eng e).reb.enrolled && !rebuildBit s e w.number row then
    closeWindow (noteMem (setRebuildBit s e w.number row) e 2 none true (rebuildAt s e w.number row) 1) e w
  else s

/-- A row is whole again: its pane is no longer declared lost. -/
def rowRebuilt (s : State) (e : EngineId) (window row : Nat) : State :=
  s.modReb e (fun r => { r with lostRows := r.lostRows.filter (· != (window, row)) })

/-- After the pane itself: ledger, mask word of a parity pane, presence bits, rebuild bit (03 R103, 09 R265). -/
def stampInstalled (s : State) (e : EngineId) (w : Window) (row : Nat) (l : Ledger) (mask : Nat × Nat) : State :=
  let s := repairLedger s e w row l
  let s := if w.isHot then noteMem s e 2 none true (w.ledgerAt row) 8 else s
  let s := if holdsParity s e row then noteMem (setMask s e w row mask.1 mask.2) e 2 none true (w.maskAt row) 8 else s
  let s := noteMem (setPresent s e w row) e 2 none true (w.bitAt row) 1
  markInstalled (rowRebuilt s e w.number row) e w row

def rowFrozen (s : State) (e : EngineId) (window row : Nat) : Bool :=
  (s.eng e).reb.freezes.any (fun f => f.window == window && f.row == row)

def paneInFlight (s : State) (e : EngineId) (window row : Nat) : Bool :=
  (s.eng e).fab.jobs.any (fun j => j.window == window && j.row == row)

/-- A new write of a pane waits: another write of it is on its way (06 R179), its row is frozen (09 R263), or it is an
erasure not yet installed (11 R320). -/
def paneWaits (s : State) (e : EngineId) (window row : Nat) : Bool :=
  paneInFlight s e window row || rowFrozen s e window row || inLocalRange s e window row

/-! ## The sender (07 R191, R198, R199) -/

/-- Header bits [28:0] of a chunk of a pane: LAST, CHUNKS and ACKED (06 R180, R181). -/
def deltaExt (last : Bool) (chunks acked : Nat) : Nat := put (b2n last) 1 28 + put (if last then chunks else 0) 5 23 + put acked 5 18

/-- Send the chunks of a pane, in ascending GRANULE order (06 R180, 07 R192). -/
def sendPane (s : State) (e : EngineId) (owner : Owner) (holders : List (Nat × Nat)) (vc kind window row step : Nat)
    (chunks : List (Nat × List Byte)) : State :=
  let col := columnHere s e row
  let n := chunks.length
  chunks.zipIdx.foldl (fun s p =>
    let ext := if kind == kindGparity then 0 else deltaExt (p.2 + 1 == n) n 0
    multicast s e owner holders vc kind (placeOf window row col p.1.1) step ext p.1.2) s

/-- The ledger entry after a write (07 R191, R198, R199, R215, 08 R228, R229, 09 R265). -/
def stampLedger (l : Ledger) : Stamp → Ledger
  | .recovered step => { l with stepTag := step, version := 0, degraded := false, rebuilt := true, pending := false, there := true }
  | .reconciled step => { l with stepTag := step, version := 0, degraded := false, rebuilt := true, there := true }
  | .sweep step => { l with stepTag := step, version := (l.version + 1) % 65536, degraded := false, rebuilt := false,
                            pending := false, there := true }
  | .coded => { l with version := (l.version + 1) % 65536, rebuilt := false, there := true }
  | .sealed step => { l with stepTag := step, version := (l.version + 1) % 65536, rebuilt := false, there := true }
  | .moved step pending => { l with stepTag := step, version := (l.version + 1) % 65536, rebuilt := false,
                                    pending := pending, there := true }

/-- Count what a stamp counts (06 R189). -/
def countStamp (s : State) (e : EngineId) : Stamp → State
  | .sweep _ => bump s e cntSweepPanes 1
  | .recovered _ => bump (bump s e cntSweepPanes 1) e cntRowsRecomputed 1
  | _ => s

/-- The CLASS of the write of a stamped pane (01 R17). -/
def Stamp.memClass : Stamp → Nat
  | .coded => 1
  | .moved _ _ => 1
  | .reconciled _ => 2
  | _ => 0

/-- The stamp of a pane that a spare installs as it reconciles a row (07 R215, 09 R269). -/
def Stamp.rebuilds : Stamp → Bool
  | .recovered _ => true
  | .reconciled _ => true
  | _ => false

/-- The row of a pane that a spare has reconciled is final there; one handed over is done with (07 R215, 09 R269). -/
def reconFinished (s : State) (e : EngineId) (window row : Nat) (content : List Byte) : State :=
  s.modReb e (fun b => { b with recons := (b.recons.filter (fun r => !(r.window == window && r.row == row && r.back.isSome))).map (fun r =>
    if r.window == window && r.row == row then { r with old := content, done := true } else r) })

/-- Steps 5 and 6 of 07 R191: write the pane, stamp its ledger entry, and count the unit. A cold home pane goes to the
tier, and its operation goes on when that write ends (08 R228). A pane slot that can no longer be read is an engine fault (11 R324). -/
def finishPane (s : State) (e : EngineId) (j : PaneJob) : State :=
  let s := s.modFab e (fun f => { f with jobs := f.jobs.filter (·.id != j.id) })
  match windowRec s e j.window with
  | none => s
  | some w =>
    let (s, ok) := if j.slot then sramRead s e sramStaging j.id else (s, true)
    if !ok then engineFault s e causeSlot
    else if !w.isHot then
      match j.owner with
      | .op id => tierChange s e 3 (0, 0) w j.row (w.paneAt j.row) j.content (.move id)
      | _ => s
    else
      let s := storePane s e j.stamp.memClass w j.row j.granules j.content
      let s := cacheLedger s e w j.row
      let l := { stampLedger (ledgerOf s e w j.row) j.stamp with column := columnHere s e j.row }
      let s := if j.stamp.rebuilds then reconFinished (stampInstalled s e w j.row l (0, 0)) e j.window j.row j.content
               else storeLedger s e j.stamp.memClass w j.row l
      let s := if 64 ≤ j.granules.length then markInstalled s e w j.row else s
      let s := countStamp s e j.stamp
      if j.unit then
        match j.owner with
        | .op id => unitDone s e id
        | _ => s
      else s

/-- A pane whose chunks are all answered goes on to its write (07 R191, step 5). A replacement of a holder is sent to and not awaited
(09 R253). -/
def paneAnswered (s : State) (e : EngineId) (j : PaneJob) : Bool :=
  !(s.eng e).fab.requests.any (fun r => r.owner == .job j.id && (r.hold != .none || r.awaited.any r.dest.contains))

def nextJob (s : State) (e : EngineId) : Nat := (s.eng e).iss.nextId

/-- A pane on its way, under the next number. -/
def paneJob (s : State) (e : EngineId) (owner : Owner) (vc step : Nat) (stamp : Stamp) (slot unit : Bool) (w : Window) (row : Nat)
    (granules : List Nat) (content : List Byte) : PaneJob :=
  { id := nextJob s e, owner := owner, vc := vc, window := w.number, row := row, step := step, content := content,
    granules := granules, stamp := stamp, slot := slot, unit := unit, refused := [] }

/-- Put a pane into the update path; it may take a pane slot (06 R178). -/
def enterJob (s : State) (e : EngineId) (j : PaneJob) : State :=
  let s := if j.slot then sramWrite s e sramStaging j.id else s
  (s.modIss e (fun q => { q with nextId := q.nextId + 1 })).modFab e (fun f => { f with jobs := f.jobs ++ [j] })

/-- Header bits [28:0] of REBUILD_SUM with HANDOFF (09 R264, R269); `cols` says in bits 1 and 0 whether columns i and 16 + i are among
those stamped, for segment i of a re-encoded parity pane (notes/assumptions/31.md, DESIGN CHOICE). -/
def handExt (new : Bool) (cols : Nat) : Nat := put 0x1f 5 8 + put 1 1 7 + put (b2n new) 1 6 + put cols 2 0

/-- Send a pane to the slot that holds it, or to one that reconciles its row: 16 REBUILD_SUM chunks with HANDOFF (09 R269, 11 R316).
`stamped` are the columns stamped at STEP that a re-encoded parity pane covers. -/
def sendHandoff (s : State) (e : EngineId) (owner : Owner) (slot window row column step : Nat) (new : Bool) (stamped : Nat)
    (content : List Byte) : State :=
  match memberAt s e slot with
  | none => s
  | some m => (rawChunks content).foldl (fun s p =>
      let i := p.1 / 4
      request s e owner m.chip e.val 2 kindSum (placeOf window row column p.1) step
        (handExt new (2 * b2n (bit stamped i) + b2n (bit stamped (16 + i)))) p.2) s

/-- The recomputed pane of a row under reconciliation. It goes back to the spare that reconciles the row, and is written once that one
has acknowledged it; or it is written at once, and the holders behind it are sent the difference, if there is one (07 R215, R216,
09 R269). -/
def startRecon (s : State) (e : EngineId) (w : Window) (j : PaneJob) (r : Recon) : State :=
  let s := enterJob s e j
  match r.back with
  | some slot => sendHandoff s e (.job j.id) slot j.window j.row (columnHere s e j.row) j.step true 0 j.content
  | none =>
    let s := finishPane s e j
    if r.multi || r.old == j.content then s
    else
      let s := bump s e cntHoldersRepaired r.behind
      sendPane s e (.repair j.window j.row) (holderList s e j.row (columnHere s e j.row)) 0 kindDelta w.number j.row j.step
        (deltaChunks (xorBytes r.old j.content))

/-- The channel of the chunks of a pane. -/
def paneVc (kind : Nat) : Nat := if kind == kindDelta then 0 else if kind == kindGparity then 1 else 3

/-- Take a pane into the update path: make it present, form its delta, send it to its holders (07 R191, steps 1 to 3). The
caller has seen that it need not wait. A pane with no holder left is written at once. -/
def startPane (s : State) (e : EngineId) (owner : Owner) (kind step : Nat) (stamp : Stamp) (slot unit : Bool) (w : Window)
    (row : Nat) (granules : List Nat) (content : List Byte) : State :=
  match reconAt s e w.number row with
  | some r => startRecon s e w (paneJob s e owner (paneVc kind) step stamp slot unit w row granules content) r
  | none =>
    let s := if kind == kindGparity || !w.isHot || !rowPresent s e w row then s
             else noteReqs s e stamp.memClass none false false (granules.map (fun g => (g + 64 * (w.base + row), 0)))
    let s := if w.isHot then bringPresent s e w row else s
    let old := rowBytes s e w row
    let j := paneJob s e owner (paneVc kind) step stamp slot unit w row granules content
    let s := enterJob s e j
    let chunks := if kind == kindGparity then rawChunks content else deltaChunks (xorBytes old content)
    let holders := holderList s e row (columnHere s e row)
    if holders.isEmpty then finishPane s e j
    else
      let s := if kind == kindDelta then
          bump (bump s e cntDeltaBytesRaw 4096) e cntDeltaBytesSent (chunks.foldl (fun n p => n + p.2.length) 0)
        else s
      sendPane s e (.job j.id) holders j.vc kind w.number row step chunks

/-- The pane of a request and everything sent for it. -/
def jobOf (s : State) (e : EngineId) (id : Nat) : Option PaneJob := (s.eng e).fab.jobs.find? (·.id == id)

/-- Finish the pane of an owner whose last chunk has just been answered. -/
def tryFinish (s : State) (e : EngineId) (id : Nat) : State :=
  match jobOf s e id with
  | none => s
  | some j => if paneAnswered s e j then finishPane s e j else s

/-! ## A holder's gather slots (07 R194, 08 R232) -/

/-- The slot of this engine's set that a chip holds. -/
def slotOfChip (s : State) (e : EngineId) (chip : Nat) : Option Nat :=
  (mySet s e).bind (fun t => t.members.findIdx? (fun m => m.chip == chip && m.state != 2))

/-- The window class that a gathered kind may name: 0 STATE, 1 GRADIENT, 2 COLD (03 R91). -/
def classOfKind (kind : Nat) : Nat := if kind == kindGparity then 1 else if kind == kindCold then 2 else 0

/-- A gathered chunk translates: its window, row and column are those of a pane whose parity this member holds (01 R35). -/
def parityTarget (s : State) (e : EngineId) (c : Chunk) : Option (Window × Nat) :=
  match windowRec s e c.window, slotOfChip s e c.srcChip.toNat with
  | some w, some src =>
    let g := geo s e
    let mine := columnHere s e c.row
    if w.cls == classOfKind c.k && c.row < w.length && c.column < g.k
        && c.srcEngine.toNat == e.val && (g.holders c.column).contains mine && c.granule % 4 == 0
        && (mySlot s e).isSome then some (w, src) else none
  | _, _ => none

/-- The gather slot of a flow. -/
def gatherKey (vc src column : Nat) (g : Gather) : Bool := g.vc == vc && g.srcSlot == src && g.column == column

/-- The byte address of a gather slot: channel, then source slot, then column (07 R194); the cold area by source slot and
column (08 R232). -/
def gatherAddr (s : State) (e : EngineId) (vc src column : Nat) : Nat :=
  let g := geo s e
  if vc == 3 then reg s e regColdGatherBase * 4096 + (src * g.k + column) * 4096
  else reg s e regDeltaGatherBase * 4096 + ((vc * g.n + src) * g.k + column) * 4096

/-- A chunk that names another pane than the incomplete one of its flow breaks 07 R192. -/
def breaksPane (s : State) (e : EngineId) (c : Chunk) : Bool :=
  match parityTarget s e c with
  | none => false
  | some (_, src) =>
    (s.eng e).fab.gathers.any (fun g => gatherKey c.vc.toNat src c.column g
      && !(g.window == c.window && g.row == c.row && g.step == c.step.toNat))

/-- The chunk's gather slot still holds a whole pane that is not folded. -/
def gatherBusy (s : State) (e : EngineId) (c : Chunk) : Bool :=
  match parityTarget s e c with
  | none => false
  | some (_, src) => (s.eng e).fab.complete.any (gatherKey c.vc.toNat src c.column)

def ackKind (kind : Nat) : Nat :=
  if kind == kindDelta then kindDeltaAck else if kind == kindCold then kindSAck else kindGparityAck

/-- A request that does not translate: NAK 0x60 and a record (01 R35). -/
def untranslated (s : State) (e : EngineId) (c : Chunk) : State :=
  nak (raise s e evRemoteUntranslated 2 (put c.srcChip.toNat 13 32 + put c.row 28 4 + put c.window 4 0)) e c 0x60

/-- Every chunk that the pane consists of has been gathered (07 R195). -/
def Gather.whole (g : Gather) : Bool :=
  match g.total with
  | some n => n ≤ g.segments.length
  | none => false

/-- A gathered chunk joins its pane; one of the same segment takes its place (06 R181). -/
def Gather.join (g : Gather) (c : Chunk) : Gather :=
  { g with segments := if g.segments.contains (c.granule / 4) then g.segments else g.segments ++ [c.granule / 4]
           chunks := g.chunks.filter (fun x => x.granule != c.granule) ++ [c]
           total := if c.k == kindGparity then some 16 else if c.x 28 28 == 1 then some (c.x 27 23) else g.total }

/-- Perform a DELTA, GPARITY or COLD_PARITY chunk (07 R194, R212, 06 R181, 09 R259). -/
def performGather (s : State) (e : EngineId) (c : Chunk) : State :=
  match parityTarget s e c with
  | none => untranslated s e c
  | some (w, src) =>
    if bit (c.x 22 18) (myBit s e c.row) || rowHeld s e w.number c.row then answer s e c (ackKind c.k) 0 c.step.toNat []
    else
      let vc := c.vc.toNat
      let old := ((s.eng e).fab.gathers.find? (gatherKey vc src c.column)).getD
        { vc := vc, srcSlot := src, column := c.column, window := c.window, row := c.row, step := c.step.toNat,
          segments := [], chunks := [], total := none }
      let bytes := if c.k == kindGparity then slice c.payload 0 256 else deltaBytes c.payload
      let s := storeMem s e 1 none (gatherAddr s e vc src c.column + 64 * c.granule) bytes
      let g := old.join c
      s.modFab e (fun f =>
        let rest := f.gathers.filter (fun x => !gatherKey vc src c.column x)
        if g.whole then { f with gathers := rest, complete := f.complete ++ [g] } else { f with gathers := g :: rest })

/-! ## Cold repair list (08 R233) -/

/-- Add a pane to the cold repair list of 512; a full list sets REPAIR_OVERFLOW. The list lies in one pane in the stack. -/
def addRepair (s : State) (e : EngineId) (window row column : Nat) : State :=
  let t := (s.eng e).tier
  if t.repairs.contains (window, row, column) then s
  else if 512 ≤ t.repairs.length then s.modTier e (fun x => { x with repairFull := true })
  else
    let s := setHbmNat s e (reg s e regColdRepairBase * 4096 + 8 * t.repairs.length)
      (put window 4 60 + put row 28 32 + put column 6 24) 8
    s.modTier e (fun x => { x with repairs := x.repairs ++ [(window, row, column)] })

/-- Rewrite the list in the stack after an entry has left it. -/
def storeRepairs (s : State) (e : EngineId) : State :=
  let l := (s.eng e).tier.repairs
  setHbm s e (reg s e regColdRepairBase * 4096) (l.flatMap (fun r =>
    leBytes (put r.1 4 60 + put r.2.1 28 32 + put r.2.2 6 24) 8) ++ zeros 8)

/-! ## NAKs and generations for a pane's chunks (07 R433, 09 R253) -/

/-- The requests of the pane that a request belongs to, in sending order. -/
def sameOwner (s : State) (e : EngineId) (r : Request) : List Request :=
  (s.eng e).fab.requests.filter (fun q => q.owner == r.owner && q.column == r.column)

/-- The ACKED bits of a pane: those recorded, and every holder that no chunk of the pane awaits (06 R181). -/
def ackedBits (s : State) (e : EngineId) (r : Request) : List Nat :=
  let all := (holderList s e r.chunk.row r.chunk.column).map (·.1)
  let waited := (sameOwner s e r).flatMap (fun q => q.awaited.map (·.1))
  (r.acked ++ all.filter (fun b => !waited.contains b)).eraseDups

/-- Send a chunk again as a new chunk of the epoch in force (09 R253). -/
def reissueOne (s : State) (e : EngineId) (r : Request) (acked : List Nat) (refused : List Nat) : State :=
  let mult := r.column.isSome
  let holders := if mult then (holderList s e r.chunk.row r.chunk.column).filter (fun h => !refused.contains h.2)
                 else r.awaited
  let bitsOf := acked.foldl (fun n b => n + 2 ^ b) 0
  let ext := if mult then r.chunk.ext.toNat / 2 ^ 23 * 2 ^ 23 + put bitsOf 5 18 + r.chunk.ext.toNat % 2 ^ 18 else r.chunk.ext.toNat
  let (s, c) := nextInFlow s e { r.chunk with ext := BitVec.ofNat 29 ext }
  let (s, r') := sendTo s e { r with chunk := c, awaited := holders, acked := acked, withheld := [], stub := [], hold := .none }
    (holders.map (·.2))
  bump (modReq s e r.tag (fun _ => r')) e cntGenResends 1

/-- Send a chunk again with every chunk of its pane that followed it (09 R253). -/
def reissue (s : State) (e : EngineId) (r : Request) : State :=
  let acked := ackedBits s e r
  let refused := match r.owner with
    | .job id => ((jobOf s e id).map (·.refused)).getD []
    | _ => []
  let later := if r.column.isSome then (sameOwner s e r).filter (fun q =>
    q.hold != .unsent && r.chunk.granule ≤ q.chunk.granule) else [r]
  later.foldl (fun s q => reissueOne s e q acked refused) s

/-- NAK 0x12: retry later, hold for the newer generation, or send again at once (09 R253). -/
def staleNak (s : State) (e : EngineId) (r : Request) (c : Chunk) : State :=
  let d := (c.mapGen - genOf s e).toNat
  if d == 0 then reissue s e r
  else if d < 32768 then modReq s e r.tag (fun q => { q with hold := .newGen c.mapGen })
  else modReq s e r.tag (fun q => { q with hold := .retry })

/-- A holder is awaited no longer for any of these requests. -/
def unawait (s : State) (e : EngineId) (p : Request → Bool) (chip : Nat) : State :=
  dropReqs (s.modFab e (fun f => { f with requests := f.requests.map (fun r =>
    if p r then { r with awaited := r.awaited.filter (fun h => h.2 != chip) } else r) })) e (fun r => p r && r.awaited.isEmpty)

/-- The holder's refusal of a pane: it is awaited no longer for any chunk of it, and its chip is reported (07 R433). -/
def refusePane (s : State) (e : EngineId) (id chip engine vc status : Nat) : State :=
  let s := s.modFab e (fun f => { f with
    jobs := f.jobs.map (fun j => if j.id == id then { j with refused := j.refused ++ [chip] } else j) })
  let s := unawait s e (fun r => r.owner == .job id) chip
  let s := lossSuspect s e chip engine vc
  match jobOf s e id with
  | none => s
  | some j => match j.owner with
    | .op o => tryFinish (addCause s e o status) e id
    | .write w => tryFinish (s.modMem e (fun m => { m with
        writes := m.writes.map (fun x => if x.id == w then { x with status := status } else x) })) e id
    | _ => tryFinish s e id

end Sys2Proof.Machine
end

