-- ==== Sys2Proof/Machine/Residency.lean ====
section
/-!
DEFINITION. Data-pane indices, residency entries and words, and parcels (08 R222-R226, R234-R235).
-/

namespace Sys2Proof.Machine

open Sys2Proof

/-! ## Data-pane indices (08 R222) -/

/-- The rows among the first n in which a slot holds data, ascending. -/
def dataRows (o : Geo) (slot : Nat) : List Nat := (List.range o.n).filter (fun r => o.isData (o.columnOf r slot))

/-- The row of data-pane index `q` of a slot. -/
def dataRowOf (o : Geo) (slot q : Nat) : Nat := q / o.k * o.n + (dataRows o slot).getD (q % o.k) 0

/-- The data-pane index of a row in which a slot holds data. -/
def dataIndexOf (o : Geo) (slot row : Nat) : Nat :=
  row / o.n * o.k + ((dataRows o slot).filter (· < row % o.n)).length

def ownSlot (s : State) (e : EngineId) : Nat := (mySlot s e).getD 0
def dataRow (s : State) (e : EngineId) (q : Nat) : Nat := dataRowOf (geo s e) (ownSlot s e) q

/-- How many data panes of a window a slot holds. -/
def dataPanes (o : Geo) (slot rows : Nat) : Nat := rows / o.n * o.k + ((dataRows o slot).filter (· < rows % o.n)).length

/-! ## Residency entries (08 R223) -/

/-- An entry of *RESIDENCY*. -/
structure ResEntry where
  valid      : Bool
  bayWindow  : Nat
  homeWindow : Nat
  bayFirst   : Nat
  homeFirst  : Nat
  span       : Nat
  poolFirst  : Nat
  depth      : Nat
  parcel     : Nat
  layer      : Nat
deriving DecidableEq, Repr

def parseRes (v : Nat) : ResEntry :=
  { valid := bit v 255, bayWindow := bits v 254 252, homeWindow := bits v 251 248, bayFirst := bits v 247 216,
    homeFirst := bits v 215 184, span := bits v 183 160, poolFirst := bits v 159 128, depth := bits v 127 121,
    parcel := bits v 120 101, layer := bits v 100 89 }

def resEntry (s : State) (e : EngineId) (o : Nat) : ResEntry := parseRes (regElem s e regResidency o)

/-- The slots whose entries have been written and are valid, ascending. -/
def validSlots (s : State) (e : EngineId) : List Nat :=
  (List.range 4096).filter (fun o => (s.eng e).dict.regs.any (fun p => p.1 == (regResidency.1, regResidency.2, o))
    && (resEntry s e o).valid)

/-! ## Residency words (08 R225, R226) -/

def stHot : Nat := 0
def stCold : Nat := 1
def stUp : Nat := 2
def stDown : Nat := 3

/-- The directory and pool windows, where the configuration names them. -/
def dirWindow (s : State) (e : EngineId) : Option Window :=
  if reg s e regTierDirWindow == 0xff then none else windowRec s e (reg s e regTierDirWindow)
def poolWindow (s : State) (e : EngineId) : Option Window :=
  if reg s e regPoolWindow == 0xff then none else windowRec s e (reg s e regPoolWindow)

/-- A residency word; HOT with APPLIED_STEP 0 where there is no directory window. -/
def resWord (s : State) (e : EngineId) (o : Nat) : Nat :=
  match dirWindow s e with
  | none => 0
  | some w => leAt (rowNow s e w (dataRow s e (o / 512))) (8 * (o % 512)) 8

def resState (s : State) (e : EngineId) (o : Nat) : Nat := bits (resWord s e o) 31 30
def resApplied (s : State) (e : EngineId) (o : Nat) : Nat := bits (resWord s e o) 63 32

/-- The pane that holds a residency word may be read and written now. -/
def dirReady (s : State) (e : EngineId) (o : Nat) : Bool :=
  match dirWindow s e with
  | none => true
  | some w => let r := dataRow s e (o / 512)
              !paneWaits s e w.number r && !rowHeld s e w.number r && !rowErased s e w r

/-- Replace bytes of a pane. -/
def patch (bs : List Byte) (at_ : Nat) (new : List Byte) : List Byte :=
  bs.take at_ ++ new ++ bs.drop (at_ + new.length)

/-- Write a residency word as the engine's own coded write; the word and the live mask, which depends on it, pass through the
ledger cache (08 R225, R235). -/
def writeResWord (s : State) (e : EngineId) (owner : Owner) (o applied state : Nat) : State :=
  match dirWindow s e with
  | none => s
  | some w =>
    let r := dataRow s e (o / 512)
    let at_ := 8 * (o % 512)
    let content := patch (rowBytes s e w r) at_ (leBytes (put applied 32 32 + put state 2 30) 8)
    let s := cacheItem (cacheItem s e (w.paneAt r + at_)) e (itemMask o)
    startPane s e owner kindDelta 0 .coded true false w r [at_ / 64] content

/-- Rewrite the words of a directory pane that are in transition: UP becomes COLD and DOWN becomes HOT (08 R226). -/
def settleDirPane (s : State) (e : EngineId) (w : Window) (p : Nat) : State :=
  let r := dataRow s e p
  let old := rowBytes s e w r
  let new := (validSlots s e).foldl (fun bs o =>
    if o / 512 == p then
      let v := leAt old (8 * (o % 512)) 8
      let st := bits v 31 30
      if st == stUp || st == stDown then
        patch bs (8 * (o % 512)) (leBytes (put (bits v 63 32) 32 32 + put (if st == stUp then stCold else stHot) 2 30) 8)
      else bs
    else bs) old
  if new == old then s
  else startPane s e .standing kindDelta 0 .coded true false w r
    (allGranules.filter (fun g => slice new (64 * g) 64 != slice old (64 * g) 64)) new

/-- After an engine reset every word in transition is settled (08 R226). -/
def settleTransitions (s : State) (e : EngineId) : State :=
  match dirWindow s e with
  | none => s
  | some w => (List.range 8).foldl (fun s p => settleDirPane s e w p) s

/-- On a spare, a directory pane is settled once it is installed (08 R226). -/
def settleInstalled (s : State) (e : EngineId) (window row : Nat) : State :=
  match dirWindow s e with
  | none => s
  | some w =>
    if w.number == window && (s.eng e).reb.enrolled && holdsData s e row && dataIndexOf (geo s e) (ownSlot s e) row < 8 then
      settleDirPane s e w (dataIndexOf (geo s e) (ownSlot s e) row)
    else s

/-! ## Parcels (08 R234, R235) -/

/-- A parcel's header fields. -/
structure ParcelHead where
  step   : Nat
  jobId  : Nat
  object : Nat
  format : Nat
  elems  : Nat
  digest : List Byte
  record : List Byte
deriving DecidableEq, Repr

def parseHead (bs : List Byte) : ParcelHead :=
  let v := leAt bs 0 32
  { step := bits v 255 224, jobId := bits v 223 208, object := bits v 207 196, format := bits v 195 192,
    elems := bits v 191 162, digest := slice bs 0 16, record := slice bs 256 256 }

/-- The header pane of a parcel (08 R234). -/
def headPane (h : ParcelHead) : List Byte :=
  leBytes (put h.step 32 224 + put h.jobId 16 208 + put h.object 12 196 + put h.format 4 192 + put h.elems 30 162
           + leNat h.digest) 32 ++ zeros 224 ++ slice h.record 0 256 ++ zeros 3584

/-- The row of pane `i` of parcel position `p` of an object, in the pool window. -/
def parcelRow (s : State) (e : EngineId) (r : ResEntry) (p i : Nat) : Nat := dataRow s e (r.poolFirst + p * r.parcel + i)

def parcelHead (s : State) (e : EngineId) (w : Window) (r : ResEntry) (p : Nat) : ParcelHead :=
  parseHead (rowNow s e w (parcelRow s e r p 0))

/-- A header pane carries its parcel's step: its STEP_TAG is that step; or it has been decoded from its row, which the tag of a rebuilt
pane tells nothing about (08 R235, R241; notes/assumptions/55.md, DEDUCED). -/
def headTagged (s : State) (e : EngineId) (w : Window) (row step : Nat) : Bool :=
  match reconAt s e w.number row with
  | some r => r.standing || (rowPresent s e w row && rowStep s e w row == step)
  | none => rowPresent s e w row && (rowStep s e w row == step || ((ledgerOf s e w row).rebuilt && step ≤ rowStep s e w row))

/-- The parcel at position `p` of object `o` is live (08 R235). -/
def isLive (s : State) (e : EngineId) (o p : Nat) : Bool :=
  match poolWindow s e with
  | none => false
  | some w =>
    let r := resEntry s e o
    let row := parcelRow s e r p 0
    let h := parcelHead s e w r p
    headTagged s e w row h.step && h.jobId == (jobIdOf s e).toNat && h.object == o
    && resApplied s e o < h.step

/-- The positions of live parcels of an object, in ascending step order. -/
def liveParcels (s : State) (e : EngineId) (o : Nat) : List Nat :=
  match poolWindow s e with
  | none => []
  | some w =>
    let r := resEntry s e o
    let ps := (List.range r.depth).filter (isLive s e o)
    ps.mergeSort (fun a b => (parcelHead s e w r a).step ≤ (parcelHead s e w r b).step)

/-- The content of a pane is known here: it is installed, or has been decoded. -/
def rowKnown (s : State) (e : EngineId) (w : Window) (row : Nat) : Bool :=
  match reconAt s e w.number row with
  | some r => !r.awaits
  | none => !notInstalled s e w.number row

/-- The panes that say how an object stands: its directory pane and the headers of its parcels (08 R225, R235). -/
def statePanes (s : State) (e : EngineId) (o : Nat) : List (Window × Nat) :=
  (match dirWindow s e with
   | some w => [(w, dataRow s e (o / 512))]
   | none => [])
  ++ (match poolWindow s e with
   | some w => (List.range (resEntry s e o).depth).map (fun p => (w, parcelRow s e (resEntry s e o) p 0))
   | none => [])

/-- How an object stands is known here (08 R225, R226, R241). -/
def objKnown (s : State) (e : EngineId) (o : Nat) : Bool := (statePanes s e o).all (fun p => rowKnown s e p.1 p.2)

/-- The live mask of an object (08 R235). -/
def liveMask (s : State) (e : EngineId) (o : Nat) : Nat :=
  ((List.range (resEntry s e o).depth).filter (isLive s e o)).foldl (fun n p => n + 2 ^ p) 0

/-- PENDING of a bay pane: its object is HOT and holds a live parcel (08 R229, R235). -/
def pendingAt (s : State) (e : EngineId) (w : Window) (row : Nat) : Bool :=
  holdsData s e row &&
  (let q := dataIndexOf (geo s e) (ownSlot s e) row
   (validSlots s e).any (fun o =>
     let r := resEntry s e o
     r.bayWindow == w.number && r.bayFirst ≤ q && q < r.bayFirst + r.span && resState s e o == stHot
     && !(liveParcels s e o).isEmpty))

/-- The object slot whose bay holds a data pane, HOT or in transition first. -/
def bayObject (s : State) (e : EngineId) (w : Nat) (row : Nat) : Option Nat :=
  if !holdsData s e row then none
  else
    let q := dataIndexOf (geo s e) (ownSlot s e) row
    let os := (validSlots s e).filter (fun o =>
      let r := resEntry s e o
      r.bayWindow == w && r.bayFirst ≤ q && q < r.bayFirst + r.span)
    match os.find? (fun o => resState s e o != stCold) with
    | some o => some o
    | none => os.head?

end Sys2Proof.Machine
end

