-- ==== Sys2Proof/Machine/Mirror.lean ====
section
/-!
DEFINITION. Mirrors: the mirror map, pane digests and the digest tree, fetching a pane, serving MIRROR_REQ, and writing the
mirror buffer with its tag entry (06 R185-R187, 09 R267, 11 R306-R307, R312-R314).
-/

namespace Sys2Proof.Machine

open Sys2Proof

/-! ## Digests (11 R306, R307) -/

/-- The digest of a pane. -/
def paneDigest (content : List Byte) : List Byte := blake3 (slice content 0 4096)

/-- Node `j` of level `h + 1` over its children. -/
def treeNode (h j : Nat) (children : List (List Byte)) : List Byte :=
  blake3 (leBytes (h + 1) 1 ++ [0] ++ leBytes children.length 2 ++ leBytes j 4 ++ children.flatten)

/-- Groups of at most 64. -/
def groups64 (ds : List (List Byte)) : List (List (List Byte)) :=
  (List.range ((ds.length + 63) / 64)).map (fun j => (ds.drop (64 * j)).take 64)

/-- The nodes of every level above 0, level by level; `fuel` bounds the levels. -/
def treeLevels : Nat → Nat → List (List Byte) → List (List Byte)
  | 0, _, _ => []
  | n + 1, h, ds =>
    let up := (groups64 ds).zipIdx.map (fun p => treeNode h p.2 p.1)
    if up.length ≤ 1 then up else up ++ treeLevels n (h + 1) up

/-- The root of the digest tree. -/
def treeRoot (ds : List (List Byte)) : List Byte := (treeLevels 8 0 ds).getLast?.getD []

/-! ## The mirror map (09 R267) -/

/-- An entry of *MIRROR_MAP*. -/
structure MirEntry where
  setId  : Nat
  slot   : Nat
  window : Nat
  valid  : Bool
  first  : Nat
  count  : Nat
  chip   : Nat
  buf    : Nat
  tags   : Nat
deriving DecidableEq, Repr

def parseMirror (v : Nat) : MirEntry :=
  { setId := bits v 255 240, slot := bits v 239 234, window := bits v 233 230, valid := bit v 229,
    first := bits v 223 192, count := bits v 191 160, chip := bits v 159 147, buf := bits v 146 111, tags := bits v 110 75 }

def mirEntry (s : State) (e : EngineId) (i : Nat) : MirEntry := parseMirror (regElem s e regMirrorMap i)

/-- The entries that have been written, ascending. -/
def mirEntries (s : State) (e : EngineId) : List Nat :=
  (List.range 256).filter (fun i => (s.eng e).dict.regs.any (fun p => p.1 == (regMirrorMap.1, regMirrorMap.2, i)))

/-- The member that owns an entry's range. -/
def mirOwner (s : State) (e : EngineId) (m : MirEntry) : Option Member :=
  (mapOf s e).bind (fun p => (p.sets.find? (fun t => t.id == m.setId)).bind (fun t => t.members[m.slot]?))

/-- The row of pane `i` of an entry's range, in the owner's slot. -/
def mirRow (s : State) (e : EngineId) (m : MirEntry) (i : Nat) : Nat := dataRowOf (geo s e) m.slot (m.first + i)

/-- The pane of an entry's buffer and its tag entry: STEP_TAG and VERIFIED (06 R187). -/
def mirPane (s : State) (e : EngineId) (m : MirEntry) (i : Nat) : List Byte := hbm s e (m.buf + 4096 * i) 4096
def mirTag (s : State) (e : EngineId) (m : MirEntry) (i : Nat) : Nat × Bool :=
  let v := hbmNat s e (m.tags + 8 * i) 8
  (bits v 63 32, bit v 0)
def setMirTag (s : State) (e : EngineId) (m : MirEntry) (i step : Nat) (verified : Bool) : State :=
  setHbmNat s e (m.tags + 8 * i) (put step 32 32 + put (b2n verified) 1 0) 8

/-- The entry of this chip's buffer that mirrors a data pane of a chip's slot: entry and index. -/
def mirrorOf (s : State) (e : EngineId) (chip window row : Nat) : Option (Nat × Nat) :=
  (mirEntries s e).findSome? (fun i =>
    let m := mirEntry s e i
    let q := dataIndexOf (geo s e) m.slot row
    if m.valid && m.chip == chipId s && m.window == window && ((mirOwner s e m).map (·.chip)) == some chip
        && (geo s e).isData ((geo s e).columnOf row m.slot) && m.first ≤ q && q < m.first + m.count then some (i, q - m.first)
    else none)

/-- The entry that covers a data pane of this member: entry, mirror chip and index. -/
def mirrorFor (s : State) (e : EngineId) (window row : Nat) : Option (Nat × Nat × Nat) :=
  if !holdsData s e row then none
  else
    let q := dataIndexOf (geo s e) (ownSlot s e) row
    (mirEntries s e).findSome? (fun i =>
      let m := mirEntry s e i
      if m.valid && m.window == window && m.slot == ownSlot s e && (mySet s e).any (fun t => t.id == m.setId)
          && m.first ≤ q && q < m.first + m.count then some (i, m.chip, q - m.first) else none)

/-! ## Fetching a pane (06 R185-R187) -/

/-- Header bits [28:0] of MIRROR_REQ (11 R313). -/
def mirExt (digest fromMirror node arbitrate : Bool) (count index : Nat) : Nat :=
  put (b2n digest) 1 28 + put (b2n fromMirror) 1 27 + put (b2n node) 1 26 + put (b2n arbitrate) 1 25 + put count 6 19 + put index 19 0

/-- Send the 17 requests of a pane. -/
def sendFetch (s : State) (e : EngineId) (f : Fetch) : State :=
  let m := mirEntry s e f.entry
  let row := mirRow s e m f.index
  let col := (geo s e).columnOf row m.slot
  let sendSeg := fun (s : State) (digest : Bool) (g : Nat) =>
    request s e (.fetch f.id) f.chip e.val 3 kindMirrorReq (placeOf m.window row col g) f.step
      (mirExt digest f.mirror false false 0 0) []
  sendSeg ((List.range 16).foldl (fun s i => sendSeg s false (4 * i)) s) true 0

/-- Start a fetch. -/
def startFetch (s : State) (e : EngineId) (owner : Owner) (chip entry index step : Nat) (mirror : Bool) : State :=
  let id := (s.eng e).iss.nextId
  let f : Fetch := { id := id, owner := owner, chip := chip, entry := entry, index := index, step := step, mirror := mirror,
                     segments := [], digest := none, tags := [], again := false, refused := none, done := false }
  let s := s.modIss e (fun q => { q with nextId := q.nextId + 1 })
  sendFetch (s.modReb e (fun r => { r with fetches := r.fetches ++ [f] })) e f

def modFetch (s : State) (e : EngineId) (id : Nat) (g : Fetch → Fetch) : State :=
  s.modReb e (fun r => { r with fetches := r.fetches.map (fun f => if f.id == id then g f else f) })

def dropFetch (s : State) (e : EngineId) (id : Nat) : State :=
  s.modReb e (fun r => { r with fetches := r.fetches.filter (·.id != id) })

/-- A response joins its fetch. -/
def Fetch.join (f : Fetch) (req resp : Chunk) : Fetch :=
  let f := { f with tags := f.tags ++ [resp.step.toNat] }
  if req.x 28 28 == 1 then { f with digest := some (slice resp.payload 0 32) }
  else { f with segments := AList.set f.segments (req.granule / 4) (slice resp.payload 0 256) }

/-- The pane that the segments make. -/
def Fetch.content (f : Fetch) : List Byte := (List.range 16).flatMap (fun i => AList.getD f.segments i (zeros 256))

/-- All 17 responses have arrived with one STEP_TAG. -/
def Fetch.whole (f : Fetch) : Bool :=
  f.segments.length == 16 && f.digest.isSome && f.tags.all (fun t => some t == f.tags.head?)

/-- The loupe's digest of the 16 segments equals the one returned. -/
def Fetch.agrees (f : Fetch) : Bool := f.whole && some (paneDigest f.content) == f.digest

/-! ## Alerts (11 R317) -/

/-- A pane digest mismatch: counted, and ALERT in the partial of the lowest uncommitted step (11 R317, 06 R166). -/
def digestMismatch (s : State) (e : EngineId) : State :=
  let s := bump s e cntDigestMismatches 1
  let step := stepNumber s e
  s.modJob e (fun j =>
    let norms := if j.norms.any (·.step == step) then
        j.norms.map (fun n => if n.step == step then { n with alert := true } else n)
      else j.norms ++ [{ step := step, sum := 0, nonfinite := false, overflow := false, alert := true }]
    { j with norms := norms })

/-! ## Serving MIRROR_REQ (06 R185, R186, 08 R227, 11 R313, R314) -/

/-- The step a served pane is tagged with: an absent pane holds every step's value (03 R101). -/
def servedTag (s : State) (e : EngineId) (w : Window) (row step : Nat) : Nat :=
  if rowPresent s e w row then rowStep s e w row else step

/-- The rows a MIRROR_REQ asks about: one, or NODE_COUNT + 1 data panes from ROW on. -/
def mirRows (s : State) (e : EngineId) (c : Chunk) : List Nat :=
  if c.x 26 26 == 1 then
    let q := dataIndexOf (geo s e) (ownSlot s e) c.row
    (List.range (c.x 24 19 + 1)).map (fun i => dataRow s e (q + i))
  else [c.row]

/-- The pane named lies in a window of this engine and in the column this member holds (01 R35). -/
def mirTarget (s : State) (e : EngineId) (c : Chunk) : Option Window :=
  match windowRec s e c.window with
  | none => none
  | some w => if (mirRows s e c).all (fun r => r < w.length && holdsData s e r) && c.column == columnHere s e c.row then some w
              else none

/-- A pane of an object that is not HOT, or that carries PENDING (08 R227). -/
def notReadable (s : State) (e : EngineId) (w : Window) (row : Nat) : Bool :=
  (rowPresent s e w row && (ledgerOf s e w row).pending)
  || (match bayObject s e w.number row with
      | some o => resState s e o != stHot
      | none => false)

/-- The owner's read of panes for a MIRROR_REQ, by its normal path (06 R185). -/
def noteMirrorRead (s : State) (e : EngineId) (w : Window) (rows : List Nat) (at_ n : Nat) : State :=
  rows.foldl (fun s r => if w.isHot && rowPresent s e w r then noteMem s e 3 none false (w.paneAt r + at_) n else s) s

def answerMirror (s : State) (e : EngineId) (c : Chunk) (step : Nat) (payload : List Byte) : State :=
  answer s e c kindMirrorResp 0 step payload

/-- Perform a MIRROR_REQ of the owner's own pane that need not wait: segment, digest or node. -/
def serveOwn (s : State) (e : EngineId) (c : Chunk) : State :=
  match mirTarget s e c with
  | none => untranslated s e c
  | some w =>
    let rows := mirRows s e c
    let step := c.step.toNat
    if rows.any (notReadable s e w) then nak s e c 0x60
    else if rows.any (paneLost s e w.number) then nak s e c 0x10
    else if rows.any (fun r => step < servedTag s e w r step) then nak (bump s e cntMirrorStale 1) e c 0x60
    else
      let tag := servedTag s e w c.row step
      let whole := c.x 26 26 == 1 || c.x 28 28 == 1
      let s := noteMirrorRead s e w rows (if whole then 0 else 64 * c.granule) (if whole then 4096 else 256)
      if c.x 26 26 == 1 then
        answerMirror (bump s e cntPaneDigests rows.length) e c tag
          (treeNode 0 (c.x 18 0) (rows.map (fun r => paneDigest (rowBytes s e w r))))
      else if c.x 28 28 == 1 then
        answerMirror (bump s e cntPaneDigests 1) e c tag (paneDigest (rowBytes s e w c.row))
      else answerMirror s e c tag (slice (rowBytes s e w c.row) (64 * c.granule) 256)

/-- Count a request of a mirror pane answered; after 17 the pane may be written again (09 R267). -/
def holdMirror (s : State) (e : EngineId) (entry index : Nat) : State :=
  s.modReb e (fun r =>
    let n := ((r.mirrorHold.find? (fun h => h.1 == entry && h.2.1 == index)).map (·.2.2)).getD 0 + 1
    let rest := r.mirrorHold.filter (fun h => !(h.1 == entry && h.2.1 == index))
    { r with mirrorHold := if 17 ≤ n then rest else (entry, index, n) :: rest })

/-- Perform a MIRROR_REQ with FROM_MIRROR: answered from the buffer only under VERIFIED and STEP_TAG = STEP; with ARBITRATE,
the digest in any case (09 R267, 11 R314). A buffer that cannot be read answers nothing (notes/assumptions/62.md, DESIGN CHOICE). -/
def serveMirror (s : State) (e : EngineId) (c : Chunk) : State :=
  match mirrorOf s e c.srcChip.toNat c.window c.row with
  | none => nak s e c 0x60
  | some (i, q) =>
    let m := mirEntry s e i
    let tag := mirTag s e m q
    let whole := c.x 25 25 == 1 || c.x 28 28 == 1
    let s := noteMem s e 3 none false (m.buf + 4096 * q + (if whole then 0 else 64 * c.granule)) (if whole then 4096 else 256)
    if !readable s e (m.buf + 4096 * q) 4096 then nak s e c 0x60
    else if c.x 25 25 == 1 then
      answerMirror (bump s e cntPaneDigests 1) e c tag.1 (paneDigest (mirPane s e m q))
    else if tag.2 && tag.1 == c.step.toNat then
      let s := holdMirror s e i q
      if c.x 28 28 == 1 then answerMirror (bump s e cntPaneDigests 1) e c tag.1 (paneDigest (mirPane s e m q))
      else answerMirror s e c tag.1 (slice (mirPane s e m q) (64 * c.granule) 256)
    else nak s e c 0x60

/-! ## Writing the mirror buffer (06 R187) -/

/-- The pane may be written: no FROM_MIRROR service of it is open. -/
def mirrorFree (s : State) (e : EngineId) (entry index : Nat) : Bool :=
  !(s.eng e).reb.mirrorHold.any (fun h => h.1 == entry && h.2.1 == index)

/-- Write a fetched pane and its tag entry. -/
def storeMirror (s : State) (e : EngineId) (f : Fetch) (verified : Bool) : State :=
  let m := mirEntry s e f.entry
  let s := storeMem s e 3 none (m.buf + 4096 * f.index) f.content
  setMirTag s e m f.index ((f.tags.head?).getD 0) verified

end Sys2Proof.Machine
end

