-- ==== Sys2Proof/Machine/Install.lean ====
section
/-!
DEFINITION. Installing a pane from its peers: degraded ranges, sum-forward chains and gathers as origin and as source, the
install itself, arbitration and the full-row check (09 R259-R270, 11 R314-R318, R320).
-/

namespace Sys2Proof.Machine

open Sys2Proof

/-! ## Ranges (09 R260) -/

/-- A free entry for a local erasure, 16 to 63. -/
def freeRange (s : State) (e : EngineId) : Option Nat :=
  ((List.range 48).map (· + 16)).find? (fun i => (AList.get? (s.eng e).reb.ranges i).isNone)

/-! ## Freezes (09 R263) -/

def addFreeze (s : State) (e : EngineId) (f : Freeze) : State :=
  s.modReb e (fun r => if r.freezes.contains f then r else { r with freezes := r.freezes ++ [f] })

def endFreeze (s : State) (e : EngineId) (window row slot column : Nat) : State :=
  s.modReb e (fun r => { r with
    freezes := r.freezes.filter (fun f => !(f.window == window && f.row == row && f.slot == slot && f.column == column))
    parts := r.parts.filter (fun p => !(p.window == window && p.row == row && p.origin == slot && p.column == column)) })

/-! ## Starting -/

/-- A fresh operation that takes freezes as origin. -/
def Install.fresh (id : Nat) (purpose : Purpose) (window row column extra : Nat) (gather : Bool) : Install :=
  { id := id, purpose := purpose, window := window, row := row, column := column, extra := extra, gather := gather, phase := .waiting,
    sources := [], sum := [], asked := false, recorded := false, torn := 0, finals := [], acks := [] }

def newInstall (s : State) (e : EngineId) (purpose : Purpose) (window row column extra : Nat) (gather : Bool) : State :=
  let n := Install.fresh (s.eng e).iss.nextId purpose window row column extra gather
  let s := s.modIss e (fun q => { q with nextId := q.nextId + 1 })
  s.modReb e (fun r => { r with installs := r.installs ++ [n] })

def modInstall (s : State) (e : EngineId) (id : Nat) (g : Install → Install) : State :=
  s.modReb e (fun r => { r with installs := r.installs.map (fun n => if n.id == id then g n else n) })

def findInstall (s : State) (e : EngineId) (id : Nat) : Option Install := (s.eng e).reb.installs.find? (·.id == id)
def dropInstall (s : State) (e : EngineId) (id : Nat) : State :=
  s.modReb e (fun r => { r with installs := r.installs.filter (·.id != id) })

/-- The operation whose install, check or read this is. -/
def purposeOp : Purpose → Option Nat
  | .opRow o => some o
  | .drillOp o _ => some o
  | .decode o _ => some o
  | .reconcile o _ => some o
  | .verify o _ => o
  | .rowCheck o _ _ => o
  | _ => none

/-- Installs that write a pane. -/
def writesPane (n : Install) : Bool :=
  match n.purpose with
  | .install _ => true
  | .erasure _ => true
  | .opRow _ => true
  | .reconcile _ _ => true
  | .coldRepair => true
  | _ => false

/-- The CLASS of an operation's own accesses to the stack (01 R17). -/
def Install.memClass (n : Install) : Nat :=
  match n.purpose with
  | .decode _ _ => 1
  | _ => if writesPane n then 2 else 3

/-- An install of this pane is on its way. -/
def installing (s : State) (e : EngineId) (window row : Nat) : Bool :=
  (s.eng e).reb.installs.any (fun n => n.window == window && n.row == row && writesPane n)

/-- The rows of a spare wait for their reconciliation: a step was being swept as it enrolled, and no COMMIT has been released since (07
R212); or the restore of its job has not been finished (10 R301). -/
def sweepHolds (s : State) (e : EngineId) : Bool :=
  let r := (s.eng e).reb
  r.enrolled && r.swept && !r.firstCommit

/-- Install a pane on demand, unless an install of it runs or its row is held (07 R212, 09 R262). -/
def demandInstall (s : State) (e : EngineId) (window row : Nat) : State :=
  if installing s e window row || sweepHolds s e then s
  else newInstall s e (.install false) window row (columnHere s e row) 0 true

/-- Columns of a row whose slot is in STATE 2. -/
def lostColumns (s : State) (e : EngineId) (row : Nat) : Nat :=
  match mySet s e with
  | none => 0
  | some t => t.members.zipIdx.foldl (fun n p => if p.1.state == 2 then n ||| 2 ^ (geo s e).columnOf row p.2 else n) 0

/-- The ERASED mask of an operation (09, "Installing a pane"); that of DECODE is its coefficient set's (12 R345). -/
def Install.mask (s : State) (e : EngineId) (n : Install) : Nat :=
  match n.purpose with
  | .decode _ _ => n.extra
  | .rowCheck _ _ _ => n.extra ||| lostColumns s e n.row
  | _ => 2 ^ n.column ||| n.extra ||| lostColumns s e n.row

def isRowCheck (n : Install) : Bool := match n.purpose with | .rowCheck _ _ _ => true | _ => false
/-- The lost data columns of a row. -/
def Install.lost (s : State) (e : EngineId) (n : Install) : List Nat :=
  (List.range (geo s e).k).filter (bit (n.mask s e))

/-- A spare asks for the records of a row's holders before it rebuilds a pane of a STATE window there (07 R218). -/
def Install.wantsRecords (s : State) (e : EngineId) (n : Install) : Bool :=
  (s.eng e).reb.enrolled && !n.recorded && (windowRec s e n.window).any (·.cls == 0) && !(n.lost s e).isEmpty
  && (match n.purpose with
      | .install _ => true
      | .opRow _ => true
      | _ => false)

/-- The surviving parity columns of a row that cover a data column. -/
def Install.coverers (s : State) (e : EngineId) (n : Install) (j : Nat) : List Nat :=
  ((geo s e).holders j).filter (fun p => !bit (n.mask s e) p)

/-- A check that only re-encodes: the data are authoritative (11 R318). -/
def Install.reencodes (n : Install) : Bool :=
  match n.purpose with
  | .rowCheck _ _ r => r
  | _ => false

/-- The columns it reads: the survivor list, every column for a full-row check, every surviving column for a reconciliation (07
R214), for a row with torn writes (07 R218) and for a re-encoding that has every data column; none where the rank is not reached. -/
def Install.columns (s : State) (e : EngineId) (n : Install) : Option (List Nat) :=
  if isRowCheck n then
    (if n.mask s e == 0 then some (List.range (geo s e).n)
     else if n.reencodes && (n.lost s e).isEmpty then some ((List.range (geo s e).n).filter (fun c => !bit (n.mask s e) c))
     else none)
  else if isReconcile n || n.torn != 0 then
    (survivors (geo s e) (n.mask s e)).map (fun _ => (List.range (geo s e).n).filter (fun c => !bit (n.mask s e) c))
  else survivors (geo s e) (n.mask s e)

/-- The row of D for the column being installed. -/
def Install.coeffs (s : State) (e : EngineId) (n : Install) : List Byte :=
  match n.purpose with
  | .decode _ _ => []
  | .rowCheck _ _ _ => []
  | .reconcile _ _ => []
  | _ => if n.torn != 0 then [] else (decodeRow (geo s e) (n.mask s e) n.column).getD []

/-- Header bits [28:0] of DREAD_REQ and REBUILD_SUM (09 R264). -/
def chainExt (mode coeff next hop : Nat) (handoff new : Bool) : Nat :=
  put mode 2 27 + put coeff 8 19 + put next 6 13 + put hop 5 8 + put (b2n handoff) 1 7 + put (b2n new) 1 6

/-- A DREAD_REQ to a slot about a column. -/
def sendDreadOf (s : State) (e : EngineId) (owner : Owner) (n : Install) (slot column mode coeff next hop granule : Nat) : State :=
  match memberAt s e slot with
  | none => s
  | some m => request s e owner m.chip e.val 2 kindDreadReq (placeOf n.window n.row column granule) (stepNumber s e)
      (chainExt mode coeff next hop false false) []

/-- A DREAD_REQ to a slot about the column being installed. -/
def sendDread (s : State) (e : EngineId) (owner : Owner) (n : Install) (slot mode coeff next hop granule : Nat) : State :=
  sendDreadOf s e owner n slot n.column mode coeff next hop granule

/-- Gather the records of a row from its surviving holders, a DREAD_REQ with MODE RELEASE for each lost data column (07 R218;
notes/assumptions/31.md, DESIGN CHOICE). -/
def askRecords (s : State) (e : EngineId) (n : Install) : State :=
  let s := modInstall s e n.id (fun x => { x with recorded := true })
  (n.lost s e).foldl (fun s j => (n.coverers s e j).foldl (fun s p =>
    sendDreadOf s e (.install n.id) n ((geo s e).slotOf n.row p) j 2 0 0 0 0) s) s

/-- Whether it holds its own row frozen for the whole procedure (09 R263, 11 R315, R316, R318). -/
def freezesOwn (n : Install) : Bool :=
  match n.purpose with
  | .arbitrate _ _ _ _ => true
  | .verify _ _ => true
  | .rowCheck _ _ _ => true
  | .drill => true
  | .drillOp _ _ => true
  | .decode _ _ => true
  | _ => false

/-- The segments of its own pane. -/
def ownData (s : State) (e : EngineId) (w : Window) (row : Nat) : AList Nat (List Byte) :=
  let c := rowBytes s e w row
  (List.range 16).map (fun i => (i, slice c (256 * i) 256))

/-- It reads its own pane: as a source, or to compare it with what it decodes (11 R315, R316, R318, 14 R389). -/
def Install.readsOwn (s : State) (e : EngineId) (n : Install) (cols : List Nat) : Bool :=
  ((mySlot s e).isSome && cols.contains (columnHere s e n.row))
  || (match n.purpose with
      | .verify _ _ => true
      | .drill => true
      | .drillOp _ _ => true
      | .arbitrate _ _ _ _ => true
      | _ => false)

/-- The read of its own pane; a cold one comes from the tier (09 R270). -/
def readOwn (s : State) (e : EngineId) (n : Install) (w : Window) : State :=
  if !rowPresent s e w n.row then s
  else if w.isHot then noteMem s e n.memClass (purposeOp n.purpose) false (w.paneAt n.row) 4096
  else tierFetch s e 4 (0, 0) (w.paneAt n.row) 4096 (.own n.id)

/-- A row is beyond decoding: every operation that needs it ends with 0x10 (09 R266). -/
def declareLost (s : State) (e : EngineId) (window row : Nat) : State :=
  s.modReb e (fun r => { r with lostRows := if r.lostRows.contains (window, row) then r.lostRows else (window, row) :: r.lostRows })

/-- A row that cannot be decoded (09 R266): a fatal record, and what needs it ends with 0x10. -/
def undecodable (s : State) (e : EngineId) (n : Install) : State :=
  let s := raise s e evRowUndecodable 3 (argsRow n.window n.row)
  let s := declareLost s e n.window n.row
  let s := endFreeze (dropInstall s e n.id) e n.window n.row (ownSlot s e) n.column
  match purposeOp n.purpose with
  | some o => endPass s e o 0x10
  | none => s

/-- A full-row check that cannot have every pane of its row settles nothing, and the operation that needs it ends with 0x10
(notes/assumptions/62.md, DESIGN CHOICE). -/
def checkGivenUp (s : State) (e : EngineId) (n : Install) (op : Option Nat) : State :=
  let s := endFreeze (modInstall s e n.id (fun x => { x with phase := .releasing })) e n.window n.row (ownSlot s e) n.column
  match op with
  | some o => addCause s e o 0x10
  | none => s

/-- Send the requests of an operation that starts (09 R264, R266). -/
def beginInstall (s : State) (e : EngineId) (n : Install) : State :=
  match n.columns s e, windowRec s e n.window with
  | some cols, some w =>
    let g := geo s e
    let own := ownSlot s e
    let cs := n.coeffs s e
    let gather := n.gather || n.torn != 0
    let s := readMatrix s e (n.mask s e)
    let s := if freezesOwn n then addFreeze s e { window := n.window, row := n.row, slot := own, column := n.column } else s
    let s := if n.readsOwn s e cols then readOwn s e n w else s
    let srcs := cols.zipIdx.map (fun p =>
      let slot := g.slotOf n.row p.1
      let mine := slot == own && (mySlot s e).isSome
      let there := mine && rowPresent s e w n.row
      ({ column := p.1, slot := slot, coeff := cs.getD p.2 0, frozen := mine, absent := mine && !there,
         tag := if there then rowStep s e w n.row else 0,
         mask := if there then maskFor s e w n.row (rowStep s e w n.row) else 0, named := 0,
         data := if mine then ownData s e w n.row else [] } : Source))
    let s := modInstall s e n.id (fun x => { x with phase := .reading, gather := gather, sources := srcs, sum := [] })
    if gather then
      srcs.foldl (fun s x =>
        if x.frozen then s
        else (List.range 16).foldl (fun s i => sendDread s e (.install n.id) n x.slot 1 0 0 0 (4 * i)) s) s
    else
      srcs.zipIdx.foldl (fun s p =>
        let next := ((srcs[p.2 + 1]?).map (·.slot)).getD own
        sendDread s e (.install n.id) n p.1.slot 0 p.1.coeff.toNat next p.2 0) s
  | _, _ => match n.purpose with
    | .arbitrate _ _ _ _ => modInstall s e n.id (fun x => { x with purpose := .rowCheck none none false, extra := 0 })
    | .rowCheck op _ _ => if (survivors (geo s e) (n.mask s e)).isSome then checkGivenUp s e n op else undecodable s e n
    | _ => undecodable s e n

/-- Operations in flight that take freezes as origin; one that waits for the final panes of the row that it reconciles is not counted, so
that the sweeps it waits for can start their own (09 R266; notes/assumptions/29.md, DESIGN CHOICE). -/
def activeInstalls (s : State) (e : EngineId) : Nat :=
  ((s.eng e).reb.installs.filter (fun n => n.phase != .waiting && n.phase != .handing)).length

/-- Nothing that an operation has sent is unanswered, and no tier transfer of it runs. -/
def installQuiet (s : State) (e : EngineId) (n : Install) : Bool :=
  !(s.eng e).fab.requests.any (fun r => r.owner == .install n.id)
  && !tierHas s e (fun t => t == .install n.id || t == .own n.id || t == .repaired n.window n.row none)

/-- An operation that reads its own pane waits for its writes, one that writes for an aperture's copy (10 R285), and one that has asked
for records or a mirror's copy for their answers. -/
def startable (s : State) (e : EngineId) (n : Install) : Bool :=
  n.phase == .waiting && activeInstalls s e < reg s e regChainsMax && !paneInFlight s e n.window n.row
  && !(writesPane n && copyRuns s e) && installQuiet s e n
  && !(n.asked && (s.eng e).reb.fetches.any (fun f => f.owner == .install n.id))

/-- The job's archives are being restored here (10 R299 to R301). -/
def restoring (s : State) (e : EngineId) : Bool :=
  (s.eng e).snap.restoreGen.isSome && (s.eng e).reb.ranges.any (fun p => !p.2.local_)

/-- The mirror holder that is asked before a data pane is installed (09 R267); a pane with torn writes and one under restore come from
their row alone (07 R218, 10 R301). -/
def mirrorAsked (s : State) (e : EngineId) (n : Install) : Option (Nat × Nat × Nat) :=
  match n.purpose with
  | .install _ => if n.asked || n.torn != 0 || restoring s e then none else mirrorFor s e n.window n.row
  | _ => none

/-- Start an operation that waited: the records of its row first, then a mirror's copy, else its sources. -/
def startInstall (s : State) (e : EngineId) (n : Install) : State :=
  if n.wantsRecords s e then askRecords s e n
  else match mirrorAsked s e n with
    | some (i, chip, q) =>
      startFetch (modInstall s e n.id (fun x => { x with asked := true })) e (.install n.id) chip i q (s.eng e).job.committed true
    | none => beginInstall s e n

/-! ## Writing what was decoded (09 R265, 03 R103) -/

/-- Every source reported an absent pane. -/
def Install.allAbsent (n : Install) : Bool := n.sources.all (·.absent)

/-- The largest STEP_TAG reported. -/
def Install.topTag (n : Install) : Nat := n.sources.foldl (fun t x => max t x.tag) 0

/-- The ledger entry of an installed pane. -/
def installLedger (s : State) (e : EngineId) (n : Install) (w : Window) : Ledger :=
  let data := holdsData s e n.row
  { stepTag := if data && w.cls != 1 then (s.eng e).job.committed else n.topTag, version := 0, column := columnHere s e n.row,
    degraded := false, rebuilt := true, pending := data && pendingAt s e w n.row, there := true }

/-- The mask word of an installed parity pane: the data columns that it covers and that are tagged above C (03 R98, 09 R265). -/
def installMask (s : State) (e : EngineId) (n : Install) : Nat × Nat :=
  let u := n.topTag
  let mine := (geo s e).covered (columnHere s e n.row)
  if u ≤ (s.eng e).job.committed then (0, 0)
  else (u, (n.sources.filter (fun x => x.tag == u && mine.contains x.column)).foldl (fun m x => m + 2 ^ x.column) 0)

/-- Install a decoded pane. A pane absent everywhere stays absent and only its rebuild bit is set; a cold pane is stamped once it has
been written to the tier. -/
def installPane (s : State) (e : EngineId) (n : Install) (content : List Byte) : State :=
  match windowRec s e n.window with
  | none => s
  | some w =>
    if n.allAbsent then markInstalled (rowRebuilt s e w.number n.row) e w n.row
    else
      let s := bump s e cntPanesInstalled 1
      let l := installLedger s e n w
      if w.isHot then stampInstalled (storePane s e 2 w n.row allGranules content) e w n.row l (installMask s e n)
      else tierAnew s e (if n.purpose == .coldRepair then 1 else 4) w n.row content l (.install n.id)

/-- Release every source but those of some columns (09 R265). -/
def releaseSources (s : State) (e : EngineId) (owner : Owner) (n : Install) (skip : List Nat) : State :=
  let own := ownSlot s e
  let s := endFreeze s e n.window n.row own n.column
  n.sources.foldl (fun s x => if x.slot == own || skip.contains x.column then s else sendDread s e owner n x.slot 2 0 0 0 0) s

/-- The operation has what it wanted: its freezes end, and it is done once every release is answered. -/
def release (s : State) (e : EngineId) (n : Install) : State :=
  modInstall (releaseSources s e (.install n.id) n []) e n.id (fun x => { x with phase := .releasing })

/-- Release the sources but those of some columns, and start again with a further ERASED mask (09 R266). Requests not yet answered stay
in the replay buffer. -/
def restartFrom (s : State) (e : EngineId) (n : Install) (skip : List Nat) (extra : Nat) : State :=
  let s := s.modFab e (fun f => { f with requests := f.requests.map (fun r =>
    if r.owner == .install n.id then { r with owner := .standing } else r) })
  let s := releaseSources s e .standing n skip
  bump (modInstall s e n.id (fun x => { x with phase := .waiting, extra := x.extra ||| extra, sources := [], sum := [], finals := [] }))
    e cntChainRestarts 1

/-- Go on with a row as a full-row check: its own freeze stands, the sources of the first read are released (11 R315, R316, R318). -/
def recheck (s : State) (e : EngineId) (n : Install) (purpose : Purpose) : State :=
  let s := addFreeze (releaseSources s e .standing n []) e { window := n.window, row := n.row, slot := ownSlot s e, column := n.column }
  modInstall s e n.id (fun x => { x with purpose := purpose, extra := 0, gather := true, phase := .waiting, sources := [], sum := [] })

/-- Start again, with another column lost where one is named (09 R266). -/
def restartInstall (s : State) (e : EngineId) (n : Install) (column : Option Nat) : State :=
  match column with
  | some c => restartFrom s e n [c] (2 ^ c)
  | none => restartFrom s e n [] 0

/-! ## The gathered panes -/

def Source.content (x : Source) : List Byte := (List.range 16).flatMap (fun i => AList.getD x.data i (zeros 256))
def Install.sumContent (n : Install) : List Byte := (List.range 16).flatMap (fun i => AList.getD n.sum i (zeros 256))

/-- Everything it reads has arrived. -/
def Install.ready (s : State) (e : EngineId) (n : Install) : Bool :=
  n.phase == .reading && !tierHas s e (· == .own n.id) &&
  (if n.gather then n.sources.all (fun x => x.data.length == 16)
   else n.sources.all (·.frozen) && (n.sources.isEmpty || n.sum.length == 16))

/-- The decoded content of the column being installed. -/
def Install.content (n : Install) : List Byte :=
  if n.gather then n.sources.foldl (fun acc x => xorBytes acc (gfScale x.coeff x.content)) (zeros 4096) else n.sumContent

/-- The sources of a gradient pane: data columns whose bit no parity source's mask word sets are zero inputs, and a parity pane of
another step shows that no column contributed (07 R202). -/
def Install.gradientContent (n : Install) (k : Nat) : List Byte :=
  let u := n.topTag
  let ps := n.sources.filter (fun x => k ≤ x.column)
  if ps.any (fun x => x.tag != u) then zeros 4096
  else ({ n with sources := n.sources.filter (fun x => k ≤ x.column || ps.any (fun p => bit p.mask x.column)) } : Install).content

/-! ## The full-row check (11 R316) -/

/-- The panes of a row by column. -/
def Install.pane (n : Install) (c : Nat) : List Byte := ((n.sources.find? (fun x => x.column == c)).map Source.content).getD (zeros 4096)

/-- The encode of a parity column from the data panes. -/
def encodeOf (o : Geo) (pane : Nat → List Byte) (c : Nat) : List Byte :=
  (List.range o.k).foldl (fun acc j => let q := o.at c j
                                       if q == 0 then acc else xorBytes acc (gfScale q (pane j))) (zeros 4096)

/-- What the syndromes say of a row. -/
inductive RowVerdict where
  | consistent
  | data (column : Nat)
  | parity (column : Nat)
  | inconsistent
deriving DecidableEq, Repr

/-- The syndrome of a parity column. -/
def rowSyndrome (o : Geo) (pane : Nat → List Byte) (c : Nat) : List Byte := xorBytes (pane c) (encodeOf o pane c)

/-- The first row of 11 R316's table that applies. -/
def rowVerdict (o : Geo) (pane : Nat → List Byte) : RowVerdict :=
  let locals := (List.range o.l).map (fun i => (i, rowSyndrome o pane (o.k + i)))
  let globals := (List.range o.m).map (fun p => (p, rowSyndrome o pane (o.k + o.l + p)))
  let live := fun (l : List (Nat × List Byte)) => l.filter (fun x => x.2.any (· != 0))
  match live locals, live globals with
  | [], [] => .consistent
  | [(i, sg)], gs =>
    if o.m == 0 then .inconsistent
    else if gs.isEmpty then .parity (o.k + i)
    else if gs.length == o.m then
      match ((List.range o.g).map (· + i * o.g)).find? (fun j => globals.all (fun t => t.2 == gfScale (coeff t.1 j) sg)) with
      | some j => .data j
      | none => .inconsistent
    else .inconsistent
  | [], [(p, _)] => .parity (o.k + o.l + p)
  | _, _ => .inconsistent

/-- The ledger entry after a repair: STEP_TAG as it is, VERSION + 1, REBUILT (11 R315, R316). -/
def repairedLedger (s : State) (e : EngineId) (w : Window) (row : Nat) : Ledger :=
  let l := ledgerOf s e w row
  { l with version := (l.version + 1) % 65536, degraded := false, rebuilt := true, column := columnHere s e row, there := true }

/-- Write a repair of the engine's own pane, its mask word left as it is; `chunk` is acknowledged once a cold pane has been written. -/
def repairOwn (s : State) (e : EngineId) (w : Window) (row : Nat) (content : List Byte) (chunk : Option Chunk) : State :=
  if w.isHot then
    let s := storePane (bringPresent s e w row) e 2 w row allGranules content
    let s := repairLedger s e w row (repairedLedger s e w row)
    rowRebuilt (noteMem s e 2 none true (w.ledgerAt row) 8) e w.number row
  else
    let (s, a) := silverAhead s e 1 (0, 0) w row
    let (s, a) := tierBorn s e 1 (0, 0) w row a
    let p := s.group.coord.tierNext
    let s := tierStore s e 1 (0, 0) (w.paneAt row) (slice content 0 4096) a .part
    tierStore s e 1 (0, 0) (w.ledgerAt row) (leBytes (repairedLedger s e w row).word 8) (some p) (.repaired w.number row chunk)

/-- Repair one column of a row, here or at its holder. -/
def repairColumn (s : State) (e : EngineId) (n : Install) (w : Window) (column : Nat) (content : List Byte) : State :=
  if column == columnHere s e n.row then repairOwn s e w n.row content none
  else sendHandoff s e (.install n.id) ((geo s e).slotOf n.row column) n.window n.row column (stepNumber s e) false 0 content

def silentCorruption (s : State) (e : EngineId) (n : Install) (column : Nat) : State :=
  bump (raise s e evSilentCorruption 2 (argsRow n.window n.row + put column 6 32)) e cntSilentCorruptions 1

/-- A row that no repair can settle (11 R316). -/
def rowInconsistent (s : State) (e : EngineId) (n : Install) (op : Option Nat) : State :=
  let s := bump (raise s e evRowInconsistent 3 (argsRow n.window n.row)) e cntRowsInconsistent 1
  let s := declareLost s e n.window n.row
  match op with
  | some o => addCause s e o 0x10
  | none => s

/-- Act on the verdict of a full-row check, or re-encode every parity pane that differs (11 R316, R318). -/
def actOnRow (s : State) (e : EngineId) (n : Install) (w : Window) (op : Option Nat) (d : Option (List Byte)) (reencode : Bool) : State :=
  let o := geo s e
  let wait := fun (s : State) => modInstall s e n.id (fun x => { x with phase := .repairing })
  if reencode then
    wait (((n.sources.map (·.column)).filter (fun c => o.k ≤ c && n.pane c != encodeOf o n.pane c)).foldl (fun s c =>
      repairColumn s e n w c (encodeOf o n.pane c)) s)
  else match rowVerdict o n.pane with
    | .consistent =>
      match d with
      | some c => wait (silentCorruption (repairColumn s e n w (columnHere s e n.row) c) e n (columnHere s e n.row))
      | none => wait s
    | .data j =>
      let sg := rowSyndrome o n.pane (o.k + j / o.g)
      wait (silentCorruption (repairColumn s e n w j (xorBytes (n.pane j) sg)) e n j)
    | .parity c => wait (repairColumn s e n w c (encodeOf o n.pane c))
    | .inconsistent => release (rowInconsistent s e n op) e n

/-! ## Arbitration (11 R315) -/

/-- Act on an arbitration once D is decoded and the mirror's digest has come or is given up. -/
def arbitrateRow (s : State) (e : EngineId) (n : Install) (w : Window) (digest : Option (List Byte)) : State :=
  let d := paneDigest n.content
  let s := bump s e cntPaneDigests 2
  let own := paneDigest (rowBytes s e w n.row) == d
  let mir := digest == some d
  if own then release (raise s e evMirrorMismatch (if mir then 0 else 1) (argsRow n.window n.row)) e n
  else if mir then
    modInstall (silentCorruption (repairColumn s e n w n.column n.content) e n n.column) e n.id (fun x => { x with phase := .repairing })
  else
    recheck s e n (.rowCheck none (some n.content) false)

/-! ## Local erasures (11 R320) -/

/-- The HBM_ERASURE record: information the first time at an address since arm, warning after. -/
def erasureRecord (s : State) (e : EngineId) (granule : Nat) : State :=
  let again := (s.eng e).lou.erasures.contains granule
  let s := s.modLou e (fun l => if again then l else { l with erasures := granule :: l.erasures })
  raise s e evHbmErasure (if again then 1 else 0) (granule % 2 ^ 36)

/-- A pane of a local erasure has been installed: its range closes when no row of it waits. -/
def erasureDone (s : State) (e : EngineId) (n : Install) (granule : Nat) : State :=
  let s := bump s e cntHbmErasures 1
  let s := s.modHealth (fun h => { h with erasures := s.time :: h.erasures })
  let left := (s.eng e).reb.installs.any (fun x => x.id != n.id && match x.purpose with
    | .erasure g => g == granule && x.phase != .releasing
    | _ => false)
  if left then s
  else
    let s := s.modReb e (fun r => { r with ranges := r.ranges.filter (fun p =>
      !(p.2.local_ && p.2.window == n.window && p.2.first ≤ n.row && n.row ≤ p.2.last)) })
    erasureRecord s e granule

/-- A GRADIENT pane whose parity has been released: zeros, with STEP_TAG 0 (11 R320). -/
def zeroGradient (s : State) (e : EngineId) (w : Window) (row : Nat) : State :=
  let s := storePane s e 2 w row allGranules (zeros 4096)
  let l : Ledger := { stepTag := 0, version := 0, column := columnHere s e row, degraded := false, rebuilt := true,
                      pending := false, there := true }
  noteMem (repairLedger s e w row l) e 2 none true (w.ledgerAt row) 8

/-- Open the range of an erasure and install its panes by GATHER (11 R320). -/
def openErasure (s : State) (e : EngineId) (w : Window) (rows : List Nat) (granule : Nat) : State :=
  let rows := rows.filter (fun r => r < w.length && rowPresent s e w r && !inLocalRange s e w.number r)
  match rows.head?, rows.getLast? with
  | some a, some b =>
    let s := match freeRange s e with
      | none => s
      | some i => s.modReb e (fun r => { r with
          ranges := AList.set r.ranges i { window := w.number, first := a, last := b, local_ := true } })
    rows.foldl (fun s r =>
      if w.cls == 1 && readable s e (w.ledgerAt r) 8 && rowStep s e w r ≤ (s.eng e).job.committed then
        let n := { Install.fresh (s.eng e).iss.nextId (.erasure granule) w.number r (columnHere s e r) 0 true with phase := .releasing }
        erasureDone (zeroGradient s e w r) e n granule
      else newInstall s e (.erasure granule) w.number r (columnHere s e r) 0 true) s
  | _, _ => s

/-- A cold pane whose entry names another column, or whose content is not trusted, is repaired from its row (03 R96, R97, 08 R233). -/
def listErased (s : State) (e : EngineId) (w : Window) (row : Nat) : State :=
  let c := columnHere s e row
  if (s.eng e).tier.repairs.contains (w.number, row, c) then s
  else
    let s := if (ledgerOf s e w row).column != c then raise s e evLedgerColumn 2 (argsRow w.number row) else s
    addRepair s e w.number row c

/-- Whether a pane can be read or written now: one whose ledger names another column, or cannot be read, is an erasure, with a record
(03 R97, 11 R320). -/
def checkRow (s : State) (e : EngineId) (w : Window) (row : Nat) : State × Bool :=
  if !rowErased s e w row then (s, true)
  else if !w.isHot then (listErased s e w row, false)
  else if inLocalRange s e w.number row || installing s e w.number row || paneLost s e w.number row then (s, false)
  else
    let s := if (ledgerOf s e w row).column != columnHere s e row then raise s e evLedgerColumn 2 (argsRow w.number row) else s
    let g := if readable s e (w.ledgerAt row) 8 then w.paneAt row / 64 else w.ledgerAt row / 64
    let rows := if readable s e (w.ledgerAt row) 8 then [row] else (List.range 8).map (fun i => row / 8 * 8 + i)
    (openErasure s e w rows g, false)

/-- Whether an access to a pane may go on, waits, or meets data that cannot be read or decoded. -/
inductive ReadState where
  | good | wait | bad | lost
deriving DecidableEq, Repr

/-- A pane of a coded window is read or written: what is missing is started; a row beyond decoding is lost (07 R212, 09 R259, R260,
R266, 11 R320). -/
def paneUsable (s : State) (e : EngineId) (w : Window) (row : Nat) : State × ReadState :=
  if paneLost s e w.number row then (s, .lost)
  else if inLocalRange s e w.number row then (s, .wait)
  else if notInstalled s e w.number row then (demandInstall s e w.number row, .wait)
  else if rowHeld s e w.number row then (s, .wait)
  else
    let r := checkRow s e w row
    (r.1, if r.2 then .good else .wait)

/-- Several states together: what cannot be read decides, then what is lost, then a wait. -/
def ReadState.both (a b : ReadState) : ReadState :=
  if a == .bad || b == .bad then .bad else if a == .lost || b == .lost then .lost else if a == .wait || b == .wait then .wait else .good

/-- The state of several panes together. -/
def panesUsable (s : State) (e : EngineId) (ps : List (Window × Nat)) : State × ReadState :=
  ps.foldl (fun t p => let r := paneUsable t.1 e p.1 p.2
                       (r.1, t.2.both r.2)) (s, .good)

/-! ## Sources (09 R263, R264, R270) -/

/-- The slot of this set that sent a chunk, where it may ask for this row (09 R266: origins of the engine's own set). -/
def dreadTarget (s : State) (e : EngineId) (c : Chunk) : Option (Window × Nat) :=
  match windowRec s e c.window, slotOfChip s e c.srcChip.toNat with
  | some w, some src =>
    if c.row < w.length && c.column < (geo s e).n && c.srcEngine.toNat == e.val && (mySlot s e).isSome
        && (mySlot s e) != some src then some (w, src) else none
  | _, _ => none

/-- What this member contributes: its pane, STEP_TAG and whether it is absent. -/
def sourceTag (s : State) (e : EngineId) (w : Window) (row : Nat) : Nat :=
  if rowPresent s e w row then rowStep s e w row else 0

/-- A source's read of its pane (09 R268); that of a cold pane has been made in the tier. -/
def noteSource (s : State) (e : EngineId) (w : Window) (row at_ n : Nat) : State :=
  if w.isHot && rowPresent s e w row then noteMem s e 2 none false (w.paneAt row + at_) n else s

/-- The records of this holder name the slot of a data column in a row (07 R198, R218). -/
def recordOf (s : State) (e : EngineId) (window row j : Nat) : Bool :=
  j < (geo s e).k && (s.eng e).fab.foldLog.contains { window := window, row := row, srcSlot := (geo s e).slotOf row j }

/-- Header bits [28:0] of the answer to a DREAD_REQ: in [24] and [25] whether this holder's records name two columns, in [23:0] the
mask of its parity pane where MASK_STEP is the pane's STEP_TAG (notes/assumptions/31.md, DESIGN CHOICE). -/
def sourceExt (s : State) (e : EngineId) (w : Window) (row i j : Nat) : Nat :=
  if holdsParity s e row then
    put (b2n (recordOf s e w.number row j)) 1 25 + put (b2n (recordOf s e w.number row i)) 1 24
      + put (if rowPresent s e w row then maskFor s e w row (rowStep s e w row) else 0) 24 0
  else 0

/-- Send a running sum on: to the next source, or to the origin with HOP 0x1F (09 R264). -/
def sendSum (s : State) (e : EngineId) (p : ChainPart) (content : List Byte) : State :=
  match memberAt s e p.nextSlot with
  | none => s
  | some m =>
    let hop := if p.nextSlot == p.origin then 0x1f else p.hop + 1
    (rawChunks content).foldl (fun s x =>
      request s e .standing m.chip e.val 2 kindSum (placeOf p.window p.row p.column x.1) (stepNumber s e)
        (chainExt 0 0 0 hop false false) x.2) s

def partKey (window row column : Nat) (p : ChainPart) : Bool := p.window == window && p.row == row && p.column == column

/-- The CHAIN pass of a source that is frozen and holds its predecessor's sum (09 R264, step 4). -/
def runPart (s : State) (e : EngineId) (w : Window) (p : ChainPart) : State :=
  if p.frozen && (p.hop == 0 || p.segments.length == 16) then
    let sum := if p.hop == 0 then zeros 4096 else (List.range 16).flatMap (fun i => AList.getD p.segments i (zeros 256))
    let s := s.modReb e (fun r => { r with parts := r.parts.filter (fun x => x != p) })
    let s := noteSource s e w p.row 0 4096
    sendSum s e p (xorBytes sum (gfScale p.coeff (rowBytes s e w p.row)))
  else s

/-- A chain part by its key, or a new one that waits for its DREAD_REQ. -/
def partAt (s : State) (e : EngineId) (c : Chunk) : ChainPart :=
  ((s.eng e).reb.parts.find? (partKey c.window c.row c.column)).getD
    { window := c.window, row := c.row, column := c.column, origin := 0, hop := 0x1f, coeff := 0, nextSlot := 0, segments := [],
      marks := 0, frozen := false, gen := c.mapGen }

def setPart (s : State) (e : EngineId) (p : ChainPart) : State :=
  s.modReb e (fun r => { r with parts := p :: r.parts.filter (fun x => !partKey p.window p.row p.column x) })

/-- Perform a DREAD_REQ with MODE CHAIN. -/
def dreadChain (s : State) (e : EngineId) (c : Chunk) (w : Window) (src : Nat) : State :=
  let there := rowPresent s e w c.row
  let s := answer s e c kindRebuildAck (if there then 0 else 1) (sourceTag s e w c.row) []
  let p := { partAt s e c with origin := src, hop := c.x 12 8, coeff := BitVec.ofNat 8 (c.x 26 19), nextSlot := c.x 18 13,
                               frozen := true, gen := c.mapGen }
  runPart (setPart s e p) e w p

/-- Perform a DREAD_REQ with MODE GATHER: segment i of the pane, with the bits of columns i and 16 + i. -/
def dreadGather (s : State) (e : EngineId) (c : Chunk) (w : Window) : State :=
  let s := noteSource s e w c.row (64 * c.granule) 256
  let i := c.granule / 4
  answerExt s e c kindDreadResp (if rowPresent s e w c.row then 0 else 1) (sourceTag s e w c.row) (sourceExt s e w c.row i (16 + i))
    (slice (rowBytes s e w c.row) (64 * c.granule) 256)

/-- Perform a DREAD_REQ that reads, with the pane at hand. -/
def dreadRead (s : State) (e : EngineId) (c : Chunk) (w : Window) (src : Nat) : State :=
  if c.x 28 27 == 0 then dreadChain s e c w src else dreadGather s e c w

/-- Serve a DREAD_REQ that reads: a member whose own pane is not installed, or not reconciled, refuses it with 0x10; the source freezes,
and a cold pane is read from the tier first (09 R263, R266, R270). -/
def serveDread (s : State) (e : EngineId) (c : Chunk) (w : Window) (src : Nat) : State :=
  if rowHeld s e w.number c.row || paneLost s e w.number c.row then nak s e c 0x10
  else
    let s := addFreeze s e { window := c.window, row := c.row, slot := src, column := c.column }
    if w.isHot || !rowPresent s e w c.row then dreadRead s e c w src
    else if c.x 28 27 == 0 then tierFetch s e 4 (0, 0) (w.paneAt c.row) 4096 (.source c)
    else tierFetch s e 4 (0, 0) (w.paneAt c.row + 64 * c.granule) 256 (.source c)

/-- Perform a DREAD_REQ (09 R263-R266). The answer to MODE RELEASE says whether this holder's records name the column (07 R218). -/
def performDread (s : State) (e : EngineId) (c : Chunk) : State :=
  match dreadTarget s e c with
  | none => untranslated s e c
  | some (w, src) =>
    if c.x 28 27 == 2 then
      answerExt (endFreeze s e c.window c.row src c.column) e c kindRebuildAck 0 c.step.toNat (sourceExt s e w c.row c.column 64) []
    else if c.x 28 27 == 3 then nak s e c 0x60
    else serveDread s e c w src

/-- The tier read of a cold source has ended; one that failed refuses, and its origin goes on without it. -/
def coldSourceRead (s : State) (e : EngineId) (c : Chunk) (status : Nat) : State :=
  match dreadTarget s e c with
  | none => untranslated s e c
  | some (w, src) =>
    if status != 0 then nak (endFreeze s e c.window c.row src c.column) e c status else dreadRead s e c w src

/-- Perform a REBUILD_SUM of a chain: gathered, acknowledged, and passed on or taken as the origin's sum (09 R264). -/
def performSum (s : State) (e : EngineId) (c : Chunk) : State :=
  match dreadTarget s e c with
  | none => untranslated s e c
  | some (w, _) =>
    let seg := slice c.payload 0 256
    let ack := fun (s : State) => answer s e c kindRebuildAck 0 c.step.toNat []
    if c.x 12 8 == 0x1f then
      ack (s.modReb e (fun r => { r with installs := r.installs.map (fun n =>
        if !n.gather && n.phase == .reading && n.window == c.window && n.row == c.row && n.column == c.column then
          { n with sum := AList.set n.sum (c.granule / 4) seg } else n) }))
    else
      let p := { partAt s e c with segments := AList.set (partAt s e c).segments (c.granule / 4) seg }
      runPart (ack (setPart s e p)) e w p

/-! ## Answers to an origin -/

/-- A REBUILD_ACK to a DREAD_REQ of a chain: the source is frozen, with its tag (09 R264, step 3). -/
def chainAck (s : State) (e : EngineId) (id chip status tag : Nat) : State :=
  modInstall s e id (fun n => if n.phase != .reading then n else { n with sources := n.sources.map (fun x =>
    if ((memberAt s e x.slot).map (·.chip)) == some chip then { x with frozen := true, absent := status == 1, tag := tag } else x) })

/-- A DREAD_RESP: a segment of a source's pane, with what its holder says of the row (09 R266). -/
def gatherResp (s : State) (e : EngineId) (id granule : Nat) (c : Chunk) : State :=
  let i := granule / 4
  modInstall s e id (fun n => if n.phase != .reading then n else { n with sources := n.sources.map (fun x =>
    if ((memberAt s e x.slot).map (·.chip)) == some c.srcChip.toNat then
      { x with frozen := true, absent := c.status.toNat == 1, tag := c.step.toNat, mask := c.x 23 0,
               named := x.named ||| (c.x 24 24 * 2 ^ i) ||| (c.x 25 25 * 2 ^ (16 + i)),
               data := AList.set x.data i (slice c.payload 0 256) } else x) })

/-- The answer of a holder whose records were asked for (07 R218). -/
def recordAnswer (s : State) (e : EngineId) (id column : Nat) (c : Chunk) : State :=
  modInstall s e id (fun n => if n.phase == .waiting && c.x 24 24 == 1 then { n with torn := n.torn ||| 2 ^ column } else n)

/-- The read of its own cold pane has ended: one that failed ends what needs it (09 R270). -/
def ownRead (s : State) (e : EngineId) (id status : Nat) : State :=
  match findInstall s e id with
  | none => s
  | some n =>
    if status == 0 then s
    else match purposeOp n.purpose with
      | some o => endPass (release s e n) e o status
      | none => release s e n

/-- The tier write of a repair has ended: the chunk that brought it is acknowledged; a write that failed lists the pane (08 R233). -/
def coldRepaired (s : State) (e : EngineId) (window row : Nat) (chunk : Option Chunk) (status : Nat) : State :=
  let s := if status == 0 then rowRebuilt s e window row else addRepair s e window row (columnHere s e row)
  match chunk with
  | some c => answer s e c kindRebuildAck 0 c.step.toNat []
  | none => s

/-- A source refused: the chain starts again without its column (09 R266, R270). -/
def sourceRefused (s : State) (e : EngineId) (id chip : Nat) : State :=
  match findInstall s e id with
  | none => s
  | some n => match n.sources.find? (fun x => ((memberAt s e x.slot).map (·.chip)) == some chip) with
    | some x =>
      if n.phase != .reading then s
      else match n.purpose with
        | .decode o _ => endPass (release s e n) e o 0x10
        | _ => restartInstall s e n (some x.column)
    | none => s

/-- CHAIN_TIMEOUT: release every source and start again (09 R266). -/
def chainTimeout (s : State) (e : EngineId) (id : Nat) : State :=
  match findInstall s e id with
  | none => s
  | some n => if n.phase == .reading && !n.gather then restartInstall s e n none else s

/-! ## Drills that end early (14 R389) -/

/-- *DRILL_LAST* (14 R388). -/
def drillWord (d : Drill) (outcome : Nat) : Nat :=
  put d.seq 16 48 + put d.rows 24 24 + put d.mismatches 16 8 + put outcome 2 0

/-- The drill rows whose chains run, in the order they were begun. -/
def drillRows (s : State) (e : EngineId) : List Install := (s.eng e).reb.installs.filter (fun n => n.purpose == .drill && n.phase != .releasing)

/-- Write *DRILL_LAST* and the position; the drill runs no longer. -/
def closeDrill (s : State) (e : EngineId) (outcome : Nat) (pos : Nat × Nat) : State :=
  s.modLou e (fun l =>
    let d := { l.drill with running := false, seq := (l.drill.seq + 1) % 65536, pos := pos }
    { l with drill := { d with last := drillWord d outcome } })

/-- A drill in progress is aborted: OUTCOME 3, the position at the first row not drilled. -/
def stopDrill (s : State) (e : EngineId) : State :=
  let d := (s.eng e).lou.drill
  if !d.running then s
  else
    let rows := drillRows s e
    let pos := ((rows.head?).map (fun n => (n.window, n.row))).getD d.at_
    let s := rows.foldl (fun s n => if n.phase == .waiting then dropInstall s e n.id else release s e n) s
    bump (closeDrill s e 3 pos) e cntDrillsSkipped 1

end Sys2Proof.Machine
end

