-- ==== Sys2Proof/Machine/Prism.lean ====
section
/-!
DEFINITION. The prism array: the fill of its coefficient registers, the passes PRISM, ENCODE, DELTA and DECODE, REBUILD and
VERIFY as origin, what a facet does when a pane-row retires, the activity governor, auto-fill, the crossbar windows and the
power estimate (04 R106-R135, 12 R345-R347, 15 R396).
-/

namespace Sys2Proof.Machine

open Sys2Proof

/-! ## Fills (04 R107, R109) -/

/-- The rows of coefficients of a pass (04 R111, 12 R345). DELTA fills cells (0, 0) and (0, 1) with 1, as do the chains that
REBUILD and VERIFY end: this member's own column is not in their survivor list, so only the running sum counts. -/
def passRows (g : Geo) (op : Nat) (w : Work) : List (List Byte) :=
  match w with
  | .pass p => if op == 0x12 then [[1, 1]] else (List.range 8).map (coeffRow g p.coeff p.ownCol)
  | .rows _ => [[0, 1]]
  | _ => []

/-- The fill of a pass at its start. -/
def fillFor (s : State) (b : EngineId) (f : Nat) (r : OpRef) : State :=
  let home := engineOf r.home
  match findOp s home r.op with
  | none => s
  | some o =>
    if (facetOf s b f).filled == some r then s
    else
      let rows := passRows (geo s home) o.ins.op o.work
      let s := match o.work with
        | .pass p => if o.ins.op == 0x12 then s
                     else if 2 ≤ p.coeff.kind then readMatrix s home p.coeff.erased
                     else (sramRead s home sramLedger (itemCoeff 0)).1
        | _ => s
      modFacet s b f (fun x => { x with cells := fillCells x rows, filled := some r })

/-- The fold matrix (04 R120). -/
def foldMatrix (g : Geo) : List (List Byte) :=
  (List.range 5).map (fun p =>
    if p == 4 then List.replicate g.k 1 else if p < g.m then (List.range g.k).map (coeff p) else [])

/-- Fill a fold facet with the fold matrix: its standing pass starts (04 R120). -/
def fillFoldFacet (s : State) (e : EngineId) (f : Nat) : State :=
  modFacet s e f (fun x => { x with cells := fillCells x (foldMatrix (geo s e)), filled := none, restarts := 0 })

/-- Fill the fold facets, at arm and at each commit of *FOLD_FACETS* (04 R120). -/
def fillFold (s : State) (e : EngineId) : State :=
  ((List.range (facetCount s)).filter (isFold s e)).foldl (fun s f => fillFoldFacet s e f) s

/-! ## Reading memory for an operation -/

/-- The panes of coded windows that the elements of a pane-row reach. -/
def walkPanes (s : State) (e : EngineId) (w : Walk) (es : List Int) : List (Window × Nat) :=
  (es.flatMap (fun a => [windowAt s e a.toNat, windowAt s e (a.toNat + 2 ^ w.elog - 1)])).filterMap id |>.eraseDups

/-- The state of a pane-row that is to be read (01 R19, 11 R320). -/
def walkState (s : State) (e : EngineId) (w : Walk) (j : Nat) : State × ReadState :=
  let es := w.rowElems j
  if !es.all (elemInside w) then (s, .bad)
  else
    let (s, r) := panesUsable s e (walkPanes s e w es)
    if r != .good then (s, r)
    else if es.all (fun a => (windowAt s e a.toNat).isSome || readable s e a.toNat (2 ^ w.elog)) then (s, .good)
    else (s, .bad)

/-- The walked bytes of a pane-row. -/
def walkedBytes (s : State) (e : EngineId) (w : Walk) (j : Nat) : List Byte :=
  (w.rowElems j).flatMap (fun a => memBytes s e a.toNat (2 ^ w.elog))

/-- The 4,096 bytes of a pane-row as an input, completed with zeros (04 R122). -/
def walkBytes (s : State) (e : EngineId) (w : Walk) (j : Nat) : List Byte :=
  let bs := walkedBytes s e w j
  bs ++ zeros (4096 - bs.length)

/-- The states of several pane-rows together. -/
def walksState (s : State) (e : EngineId) (ws : List Walk) (j : Nat) : State × ReadState :=
  ws.foldl (fun t w =>
    let (s, r) := walkState t.1 e w j
    (s, t.2.both r)) (s, .good)

/-! ## Staging queues (04 R116) -/

def stageOf (s : State) (e : EngineId) (q : Nat) : List (Nat × List Byte) := AList.getD (s.eng e).iss.stages q []
def setStage (s : State) (e : EngineId) (q : Nat) (l : List (Nat × List Byte)) : State :=
  s.modIss e (fun x => { x with stages := if l.isEmpty then AList.erase x.stages q else AList.set x.stages q l })

/-- A pane joins a staging queue, as a word of the staging SRAM. -/
def pushStage (s : State) (e : EngineId) (q : Nat) (content : List Byte) : State :=
  let n := (s.eng e).iss.nextId
  let s := (sramWrite s e sramStaging n).modIss e (fun x => { x with nextId := n + 1 })
  setStage s e q (stageOf s e q ++ [(n, content)])

def inQueues (ins : List InBind) : List Nat := ins.filterMap (fun b => match b with | .stage q => some q | _ => none)
def outQueues (outs : List OutBind) : List Nat := outs.filterMap (fun b => match b with | .stage q => some q | _ => none)

/-- Every STAGE input finds a pane. -/
def stageReady (s : State) (e : EngineId) (p : PassWork) : Bool :=
  let qs := inQueues p.ins
  qs.all (fun q => (qs.filter (· == q)).length ≤ (stageOf s e q).length)

/-- Panes of the staging SRAM: 1 MiB (00 R7). -/
def stagePanes : Nat := 256

/-- No STAGE output meets a full queue, and the staging SRAM holds the panes; how many of them one queue may hold is a free value
(notes/assumptions/10.md). -/
def stageRoom (s : State) (e : EngineId) (p : PassWork) : Bool :=
  let qs := outQueues p.outs
  let used := (s.eng e).iss.stages.foldl (fun n x => n + x.2.length) 0
  (used + qs.length ≤ stagePanes + (inQueues p.ins).length)
  && qs.all (fun q => (stageOf s e q).length + (qs.filter (· == q)).length ≤ Config.stageCapacity q)

/-! ## One pane-row of a pass -/

def isBound : InBind → Bool
  | .zero => false
  | _ => true
def isDriven : OutBind → Bool
  | .discard => false
  | _ => true

/-- The cells that stream in a pass: both their column and their row are bound (04 R124). -/
def usedCells (p : PassWork) : List Nat :=
  (p.outs.zipIdx.filter (fun o => isDriven o.1)).flatMap (fun o =>
    (p.ins.zipIdx.filter (fun i => isBound i.1)).map (fun i => 24 * o.2 + i.2))

/-- The words of the next panes of the STAGE inputs are read; whether they can be used (11 R324). -/
def readStages (s : State) (e : EngineId) (p : PassWork) : State × Bool :=
  let qs := inQueues p.ins
  (qs.eraseDups.flatMap (fun q => (stageOf s e q).take (qs.filter (· == q)).length)).foldl (fun t x =>
    let (s, ok) := sramRead t.1 e sramStaging x.1
    (s, ok && t.2)) (s, true)

/-- The next panes of the STAGE inputs are taken. -/
def takeStages (s : State) (e : EngineId) (p : PassWork) : State :=
  (inQueues p.ins).foldl (fun s q => setStage s e q ((stageOf s e q).drop 1)) s

/-- The content of input column `i` in pane-row `j`. `gathered` holds the panes of a gather by column. -/
def inputBytes (s : State) (e : EngineId) (p : PassWork) (gathered : Nat → List Byte) (j i : Nat) : List Byte :=
  match p.ins.getD i .zero with
  | .zero => zeros 4096
  | .mem w => walkBytes s e w j
  | .stage q => (((stageOf s e q)[((inQueues (p.ins.take i)).filter (· == q)).length]?).map (·.2)).getD (zeros 4096)
  | .own wn => match windowRec s e wn with
    | some w => rowBytes s e w (p.first + j * p.rowStep)
    | none => zeros 4096
  | .gathered c => gathered c

/-- The FABRIC output of a pane-row: sixteen chunks to the slot that holds COLUMN (04 R116). -/
def sendOutput (s : State) (e : EngineId) (id : Nat) (row column window kind : Nat) (content : List Byte) : State :=
  match memberAt s e ((geo s e).slotOf row column) with
  | none => s
  | some m =>
    let vc := (vcOfKind kind).getD 3
    (rawChunks content).foldl (fun s x =>
      let ext := if kind == kindDelta || kind == kindCold then deltaExt (x.1 == 60) 16 0 else 0
      request s e (.op id) m.chip e.val vc kind (placeOf window row column x.1) (stepNumber s e) ext x.2) s

/-- The first granule in which two runs differ, as far as the walk goes. -/
def firstDiff (walked content : List Byte) : Option Nat :=
  ((walked.zip content).findIdx? (fun p => p.1 != p.2)).map (· / 64)

/-- The CLASS of an operation's accesses (01 R17). -/
def memClass (op : Nat) : Nat := if op == 0x14 || op == 0x13 then 2 else if op == 0x15 then 3 else 1

/-- One output row takes effect. -/
def emitRow (s : State) (e : EngineId) (id op j row : Nat) (out : OutBind) (content : List Byte) : State :=
  match out with
  | .discard => s
  | .mem w => noteWrite (writeWalk s e w j content) e (memClass op) (some id) w j
  | .xormem w =>
    let s := noteRead s e (memClass op) (some id) w j
    noteWrite (writeWalk s e w j (xorBytes (walkBytes s e w j) content)) e (memClass op) (some id) w j
  | .stage q => pushStage s e q content
  | .fabric c wn k => sendOutput s e id row c wn k content
  | .compare w =>
    let s := noteRead s e (memClass op) (some id) w j
    match firstDiff (walkedBytes s e w j) content with
    | some g => noteMismatch s e id j g
    | none => s
  | .delta _ => s

/-- Walks that a pane-row reads, and those it writes. -/
def inWalks (p : PassWork) : List Walk :=
  p.ins.filterMap (fun b => match b with | .mem w => some w | _ => none)
def readWalks (p : PassWork) : List Walk :=
  inWalks p ++ p.outs.filterMap (fun b => match b with | .compare w => some w | .xormem w => some w | _ => none)
def writeWalks (p : PassWork) : List Walk :=
  p.outs.filterMap (fun b => match b with | .mem w => some w | .xormem w => some w | _ => none)

/-- Segments that a lent pass may still stream in this crossbar window, `i` bytes in and `o` bytes out a segment (04 R131). -/
def lentSegments (s : State) (home b : EngineId) (i o : Nat) : Nat :=
  let left := fun (e : EngineId) (out : Bool) (n : Nat) => if n == 0 then 256 else (xbarLimit s e - xbarCharge s e.val out) / n
  min (min (left home true i) (left b false i)) (min (left b true o) (left home false o))

/-- Charge segments to both engines' crossbar ports. -/
def chargeXbar (s : State) (home b : EngineId) (i o : Nat) : State :=
  let add := fun (s : State) (e : EngineId) (out : Bool) (n : Nat) =>
    s.modCoord (fun c => { c with xbar := AList.set c.xbar (e.val, out) (AList.getD c.xbar (e.val, out) 0 + n) })
  add (add (add (add s home true i) b false i) b true o) home false o

/-- The 256 segments of a pane-row, of which `lent` have been streamed: a lent pass streams what its budget allows and stalls until the
next window (04 R131). -/
def streamLent (s : State) (home b : EngineId) (i o lent : Nat) : State × Nat :=
  if home == b then (s, 256)
  else
    let n := min (256 - lent) (lentSegments s home b i o)
    (chargeXbar s home b (n * i) (n * o), lent + n)

def modPass (s : State) (e : EngineId) (id : Nat) (f : PassWork → PassWork) : State :=
  modOp s e id (fun o => match o.work with
    | .pass p => { o with work := .pass (f p) }
    | _ => o)

/-- A pane-row has been retired: the next one, or the end of the pass. -/
def rowRetired (s : State) (e : EngineId) (id : Nat) (p : PassWork) (unit : Bool) : State :=
  let s := modPass s e id (fun q => { q with done := q.done + 1, lent := 0 })
  let s := if unit then unitDone s e id else s
  if p.panes ≤ p.done + 1 then endPass s e id 0 else s

/-- The reads of a pane-row's inputs. -/
def noteWalks (s : State) (e : EngineId) (op : Option Nat) (p : PassWork) : State :=
  let cls := match op.bind (findOp s e) with
    | some o => memClass o.ins.op
    | none => 1
  (inWalks p).foldl (fun s w => noteRead s e cls op w p.done) s

/-- Every output of a pane-row takes effect: the sums of products that leave the array (04 R106, R117). -/
def emitRows (s : State) (home b : EngineId) (f : Nat) (o : Op) (p : PassWork) (gathered : Nat → List Byte) : State :=
  let x := facetOf s b f
  let n := p.ins.length
  let ins := (List.range n).map (inputBytes s home p gathered p.done)
  let s := noteWalks s home (some o.id) p
  let s := takeStages s home p
  let s := p.outs.zipIdx.foldl (fun s q =>
    if isDriven q.1 then
      emitRow s home o.id o.ins.op p.done (p.first + p.done * p.rowStep) q.1
        (rowOutput ((List.range n).map (fun i => cellActive x (24 * q.2 + i))) ins)
    else s) s
  noteCells s b f (256 * (usedCells p).length)

/-- A parity mismatch: the outputs of the pane-row are discarded and the pass goes on from it after a refill; a second one is a
facet fault (04 R107). `mark` records the first. -/
def parityMismatch (s : State) (b : EngineId) (f : Nat) (r : OpRef) (restarts : Nat) (mark : State → State) : State :=
  let s := ceUnit (bump s b cntCoeffParityErrors 1) b
  if restarts == 0 then fillFor (modFacet (mark s) b f (fun x => { x with filled := none })) b f r
  else facetFault s b f

/-- The cells of a pass are filled, and those that it uses keep their parity; a mismatch is met as 04 R107 says. -/
def cellsGood (s : State) (b : EngineId) (f : Nat) (r : OpRef) (cells : List Nat) (restarts : Nat) (mark : State → State) : State × Bool :=
  let s := fillFor s b f r
  if cells.any (cellBad (facetOf s b f)) then (parityMismatch s b f r restarts mark, false) else (s, true)

/-- The cells of a pass of bindings keep their parity. -/
def passCells (s : State) (home b : EngineId) (f : Nat) (o : Op) (p : PassWork) : State × Bool :=
  cellsGood s b f { home := home.val, op := o.id } (usedCells p) p.restarts
    (fun s => modPass s home o.id (fun q => { q with restarts := 1 }))

/-- One pane-row of PRISM or ENCODE, or of DECODE once its row is gathered. -/
def passRow (s : State) (home b : EngineId) (f : Nat) (o : Op) (p : PassWork) (gathered : Nat → List Byte) : State × Bool :=
  let (s, ok) := passCells s home b f o p
  if !ok || !stageReady s home p || !stageRoom s home p then (s, false)
  else
    let (s, st) := walksState s home (readWalks p) p.done
    match st with
    | .wait => (s, false)
    | .bad => (endPass s home o.id 0x40, false)
    | .lost => (endPass s home o.id 0x10, false)
    | .good =>
      if (writeWalks p).any (fun w => walkRowTouches s home w p.done) then (endPass s home o.id 0x60, false)
      else if !(writeWalks p).all (fun w => w.rowInside p.done) then (endPass s home o.id 0x40, false)
      else
        let (s, n) := streamLent s home b (16 * (p.ins.filter isBound).length) (16 * (p.outs.filter isDriven).length) p.lent
        if n < 256 then (modPass s home o.id (fun q => { q with lent := n }), false)
        else
          let (s, sound) := readStages s home p
          if !sound then (endPass s home o.id 0x40, false)
          else (rowRetired (emitRows s home b f o p gathered) home o.id p true, true)

/-! ## DELTA and DECODE (12 R345, R346) -/

/-- One pane-row of DELTA: a coded write of the pane with the walk's bytes, under 07 R191 with STEP 0. -/
def deltaRow (s : State) (e : EngineId) (f : Nat) (o : Op) (p : PassWork) : State :=
  let row := p.first + p.done * p.rowStep
  match windowRec s e p.window with
  | none => endPass s e o.id 0x60
  | some w =>
    if !holdsData s e row then endPass s e o.id 0x60
    else if paneWaits s e w.number row then s
    else
      let (s, good) := passCells s e e f o p
      if !good then s
      else
      let (s, own) := paneUsable s e w row
      let (s, st) := walksState s e (inWalks p) p.done
      match own.both st with
        | .wait => s
        | .lost => endPass s e o.id 0x10
        | .bad => endPass s e o.id 0x40
        | .good =>
          let content := inputBytes s e p (fun _ => []) p.done 1
          let s := noteWalks s e (some o.id) p
          let s := startPane s e (.op o.id) kindDelta 0 .coded false true w row allGranules content
          rowRetired (noteCells s e f 512) e o.id p false

/-- One pane-row of DECODE: its row is gathered and stays frozen until the pane-row retires. -/
def decodeStep (s : State) (e : EngineId) (f : Nat) (o : Op) (p : PassWork) : State :=
  let row := p.first + p.done * p.rowStep
  let mine := fun (n : Install) => n.purpose == .decode o.id row
  match (s.eng e).reb.installs.find? mine with
  | none =>
    let own := (windowRec s e p.window).filter (fun _ => (mySlot s e).isSome && !bit p.coeff.erased (columnHere s e row))
    let (s, st) := panesUsable s e ((own.map (fun w => (w, row))).toList)
    (match st with
     | .good => newInstall s e (.decode o.id row) p.window row ((erasedCols (geo s e) p.coeff.erased).headD 0) p.coeff.erased true
     | .lost => endPass s e o.id 0x10
     | _ => s)
  | some n =>
    if !n.ready s e then s
    else
      let (s, done) := passRow s e e f o p n.pane
      if done then release s e n else s

/-! ## REBUILD and VERIFY (12 R345, R346; 11 R318) -/

def rowsWork (s : State) (e : EngineId) (id : Nat) : Option RowsWork :=
  (findOp s e id).bind (fun o => match o.work with | .rows r => some r | _ => none)

/-- Change the rows of a REBUILD or VERIFY. -/
def modRows (s : State) (e : EngineId) (id : Nat) (f : RowsWork → RowsWork) : State :=
  modOp s e id (fun o => match o.work with
    | .rows r => { o with work := .rows (f r) }
    | _ => o)

/-- A row is done with. -/
def rowDone (s : State) (e : EngineId) (id : Nat) : State :=
  unitDone (modRows s e id (fun r => { r with done := r.done + 1 })) e id

/-- An enrolment range of a window is open. -/
def rangeOpen (s : State) (e : EngineId) (window : Nat) : Bool :=
  (s.eng e).reb.ranges.any (fun p => !p.2.local_ && p.2.window == window)

/-- A row lies in an open degraded range (09 R260). -/
def inRange (s : State) (e : EngineId) (window row : Nat) : Bool :=
  (s.eng e).reb.ranges.any (fun p => p.2.window == window && p.2.first ≤ row && row ≤ p.2.last)

/-- VERIFY skips a row (11 R318). -/
def verifySkips (s : State) (e : EngineId) (w : Window) (row : Nat) : Bool :=
  !holdsParity s e row || w.cls == 1 || inRange s e w.number row

/-- An install or check of this operation is on its way. -/
def rowRuns (s : State) (e : EngineId) (id : Nat) : Bool :=
  (s.eng e).reb.installs.any (fun n => match n.purpose with
    | .opRow o => o == id
    | .drillOp o _ => o == id
    | .verify o _ => o == some id
    | .rowCheck o _ _ => o == some id
    | _ => false)

/-- Start the next rows of a REBUILD or VERIFY: one at a time, and none before the one before it is done. -/
def pumpRows : Nat → State → EngineId → Nat → State
  | 0, s, _, _ => s
  | n + 1, s, e, id =>
    match rowsWork s e id with
    | none => s
    | some r =>
      if rowRuns s e id then s
      else if r.panes ≤ r.done then endPass s e id 0
      else
        let row := r.first + r.done * r.rowStep
        match windowRec s e r.window with
        | none => endPass s e id 0x60
        | some w =>
          if r.opcode == 0x15 then
            if verifySkips s e w row then pumpRows n (rowDone (bump s e cntScrubSkipped 1) e id) e id
            else newInstall s e (.verify (some id) r.reencode) w.number row (columnHere s e row) 0 false
          else if r.drill then newInstall s e (.drillOp id r.done) w.number row (columnHere s e row) r.erased false
          else if rangeOpen s e w.number && rebuildBit s e w.number row then pumpRows n (rowDone s e id) e id
          else newInstall s e (.opRow id) w.number row (columnHere s e row) r.erased false

/-- The next row of a REBUILD or VERIFY streams on its facet: the cells of CHAIN are checked, and a lent one keeps its budget (04 R107,
R131). -/
def rowsRow (s : State) (home b : EngineId) (f : Nat) (o : Op) (w : RowsWork) : State :=
  let (s, ok) := cellsGood s b f { home := home.val, op := o.id } [0, 1] w.restarts
    (fun s => modRows s home o.id (fun r => { r with restarts := 1 }))
  if !ok || rowRuns s home o.id then s
  else
    let (s, n) := streamLent s home b 32 16 w.lent
    if n < 256 then modRows s home o.id (fun r => { r with lent := n })
    else pumpRows (w.panes + 1) (noteCells (modRows s home o.id (fun r => { r with lent := 0 })) b f 512) home o.id

/-! ## PANE_ROW_RETIRE and STAGE_WAIT_TIMEOUT -/

/-- The facet's streaming operation gets on by one pane-row. -/
def facetRow (s : State) (b : EngineId) (f : Nat) : State :=
  match (facetOf s b f).active with
  | none => s
  | some r =>
    let home := engineOf r.home
    match findOp s home r.op with
    | none => s
    | some o => match o.work with
      | .pass p =>
        if p.panes ≤ p.done then s
        else if o.ins.op == 0x12 then deltaRow s home f o p
        else if o.ins.op == 0x13 then decodeStep s home f o p
        else (passRow s home b f o p (fun _ => [])).1
      | .rows w => rowsRow s home b f o w
      | .fill _ => streamFill s b f r
      | _ => s

/-- A pass has stayed stalled on a STAGE input for *STAGE_WAIT_TIMEOUT* (04 R116). -/
def execStageWaitTimeout (e : EngineId) (facet : Fin 8) (s : State) : Out :=
  match (facetOf s e facet.val).active with
  | none => .next s
  | some r =>
    let home := engineOf r.home
    match findOp s home r.op with
    | none => .next s
    | some o => match o.work with
      | .pass p => if stageReady s home p then .next s else .next (endPass s home r.op 0x10)
      | _ => .next s

/-! ## Activity, auto-fill, crossbar windows, power -/

/-- The most active cell-cycles that a window may hold under the power cap (15 R396). -/
def activityLimit (x : Facet) : Nat := 192 * 256 * x.capPercent / 100

/-- The end of a window of 256 array cycles: the governor keeps the change of activity within 12,288, by stalls or by inserted
FILL, whose cycles it counts (04 R124, R126). -/
def execActivityWindow (e : EngineId) (facet : Fin 8) (s : State) : Out :=
  let x := facetOf s e facet.val
  let want := min (activityLimit x) (if x.autofill && x.current == 0 then x.lastAct else x.current)
  let got := max (x.activity - 12288) (min (x.activity + 12288) want)
  let s := modFacet s e facet.val (fun x => { x with
    activity := got, current := 0, lfsr := if x.autofill && x.current == 0 then x.lfsr + 256 else x.lfsr })
  let s := if got == want then s else bumpCycles s e cntRampCycles 0
  .next (if want < x.current then bumpCycles s e cntPowerCapCycles 0 else s)

/-- *FILL_GAP_MAX* cycles have passed: the facet stops streaming FILL (04 R126). -/
def execAutofillGapEnd (e : EngineId) (facet : Fin 8) (s : State) : Out :=
  .next (modFacet s e facet.val (fun x => { x with autofill := false }))

/-- A new window of 1,024 array cycles: the charges start again, under the *XBAR_LEND_BUDGET* now written (04 R131, R135). -/
def execCrossbarWindow (s : State) : Out :=
  .next (forEngines allEngines (fun s e => s.modIss e (fun q => { q with lendBudget := reg s e regXbarLendBudget }))
    (s.modCoord (fun c => { c with xbar := [] })))

/-- The summary of activity that the estimate is a function of. -/
def activitySum (s : State) : Nat :=
  (presentEngines s).foldl (fun n e => n + (List.range 8).foldl (fun m f => m + (facetOf s e f).activity) 0) 0

/-- The coordinator's estimate of the group's power; above the limit, every facet's allowed activity falls in proportion (15
R396). The per-unit weights are not given: the estimate is a free value (notes/assumptions/3.md). -/
def execPowerEstimate (s : State) : Out :=
  let est := Config.powerEstimate (activitySum s)
  let limit := greg s regGroupPowerLimit
  let pct := if est.toNat ≤ limit then 100 else limit * 100 / est.toNat
  let s := s.modCoord (fun c => { c with powerEst := est, powerCap := pct })
  .next (forEngines (presentEngines s) (fun s e =>
    let s := (List.range 8).foldl (fun s f => modFacet s e f (fun x => { x with capPercent := pct })) s
    if pct < 100 then bumpCycles s e cntPowerCapCycles 0 else s) s)

/-! ## Dispatch of the passes (12 R345, R346) -/

/-- What every pass opcode reserves: words 1 and 3. -/
def passReserved (i : RawInstr) : Bool := i.f1 63 32 != 0 || i.f3 59 50 != 0

/-- The pass's rows lie in a window of this engine, which this member can serve. -/
def rowsOk (s : State) (e : EngineId) (i : RawInstr) : Bool :=
  match windowRec s e i.window with
  | none => false
  | some w => (mySlot s e).isSome && (i.panes == 0 || i.firstRow + (i.panes - 1) * i.rowStep < w.length)

def windowClass (s : State) (e : EngineId) (i : RawInstr) : Nat := ((windowRec s e i.window).map (·.cls)).getD 3

/-- The number of output rows that ENCODE and DECODE bind. -/
def encodeRows (g : Geo) (c : CoeffSet) : Nat := min 8 (g.n - g.k - c.outFirst)
def decodeRows (g : Geo) (c : CoeffSet) : Nat := min 8 ((erasedCols g c.erased).length - c.outFirst)

/-- The status of 04 R114 with the check that it belongs to. -/
def coeffCheck (s : State) (e : EngineId) (c : CoeffSet) : List (Bool × Nat × Nat) :=
  match coeffStatus (geo s e) c with
  | none => []
  | some st => [(true, st, if st == 0x01 then 6 else 5)]

/-- A valid walker of the pass. -/
def passWalker (s : State) (e : EngineId) (i : Nat) (panes : Nat) : Option Walk :=
  match walker s e i with
  | some w => if w.covers panes then some w else none
  | none => none

/-- Several consecutive walkers; none if one of them is invalid. -/
def passWalkers (s : State) (e : EngineId) (first n panes : Nat) : Option (List Walk) :=
  (List.range n).mapM (fun i => passWalker s e (first + i) panes)

def passWork (i : RawInstr) (c : CoeffSet) (own : Nat) (ins : List InBind) (outs : List OutBind) : PassWork :=
  { coeff := c, ownCol := own, ins := ins, outs := outs, window := i.window, first := i.firstRow, rowStep := i.rowStep,
    panes := i.panes, done := 0, restarts := 0, lent := 0 }

/-- A FABRIC output names a request kind that carries a payload and a column of the row; it needs an armed job. -/
def fabricOk (s : State) (e : EngineId) (b : OutBind) : Bool :=
  match b with
  | .fabric c _ k => c < (geo s e).n && isRequest k && !noPayload k
  | _ => true

def isFabric (b : OutBind) : Bool := match b with | .fabric _ _ _ => true | _ => false

/-- PRISM at dispatch. -/
def beginPrism (s : State) (e : EngineId) (i : RawInstr) : State :=
  let c := parseCoeff (i.f3 47 0)
  let d := i.f1 15 0
  guardAll s e i i.panes ([
    (passReserved i || i.f1 31 16 != 0 || i.window != 0 || i.f3 49 48 != 0 || reg s e regDescCount < d + 4, 0x60, 4)]
    ++ coeffCheck s e c ++ [(i.panes == 0, 0x01, 6), (!descReadable s e d 4, 0x40, 5)])
    (match descEntries s e d 4 with
     | none => endNow s e i i.panes 0x60 4
     | some bs =>
       let bs := parsePass bs
       match (bs.take 24).mapM (inBinding s e i.panes), (bs.drop 24).mapM (outBinding s e i.panes) with
       | some ins, some outs =>
         if outs.any isFabric && !armed s e then endNow s e i i.panes 0x11 5
         else if !outs.all (fabricOk s e) then endNow s e i i.panes 0x60 5
         else launchArray s e i i.panes (.pass (passWork i c ((bs.map (·.column)).headD 0) ins outs))
       | _, _ => endNow s e i i.panes 0x60 5)

/-- ENCODE at dispatch. -/
def beginEncode (s : State) (e : EngineId) (i : RawInstr) : State :=
  let g := geo s e
  let c := parseCoeff (i.f3 47 0)
  let a := i.f1 15 0
  let b := i.f1 31 16
  let n := encodeRows g c
  guardAll s e i i.panes ([
    (passReserved i || i.window != 0 || i.f3 49 49 != 0 || reg s e regDescCount < a + g.k || reg s e regDescCount < b + n, 0x60, 4),
    (c.kind != 1, 0x60, 5)]
    ++ coeffCheck s e c ++ [(i.panes == 0, 0x01, 6), (!(descReadable s e a g.k && descReadable s e b n), 0x40, 5)])
    (match passWalkers s e a g.k i.panes, passWalkers s e b n i.panes with
     | some ins, some outs =>
       launchArray s e i i.panes (.pass (passWork i c 0 (ins.map .mem) (outs.map (if i.f3 48 48 == 1 then .xormem else .mem))))
     | _, _ => endNow s e i i.panes 0x60 5)

/-- DELTA at dispatch. -/
def beginDelta (s : State) (e : EngineId) (i : RawInstr) : State :=
  let a := i.f1 15 0
  guardAll s e i i.panes [
    (passReserved i || i.f1 31 16 != 0 || i.f3 49 0 != 0 || reg s e regDescCount < a + 1, 0x60, 4),
    (!rowsOk s e i || windowClass s e i != 0, 0x60, 5), (i.panes == 0, 0x01, 6), (!descReadable s e a 1, 0x40, 5)]
    (match passWalker s e a i.panes with
     | some w => launchArray s e i i.panes (.pass (passWork i (parseCoeff 0) 0 [.own i.window, .mem w] [.delta i.window]))
     | none => endNow s e i i.panes 0x60 5)

/-- DECODE at dispatch. -/
def beginDecode (s : State) (e : EngineId) (i : RawInstr) : State :=
  let g := geo s e
  let c := parseCoeff (i.f3 47 0)
  let b := i.f1 31 16
  let n := decodeRows g c
  guardAll s e i i.panes ([
    (passReserved i || i.f1 15 0 != 0 || i.f3 49 49 != 0 || reg s e regDescCount < b + n, 0x60, 4),
    (!rowsOk s e i || c.kind != 2, 0x60, 5)]
    ++ coeffCheck s e c ++ [(i.panes == 0, 0x01, 6), (!descReadable s e b n, 0x40, 5)])
    (match survivors g c.erased, passWalkers s e b n i.panes with
     | some cols, some outs =>
       launchArray s e i i.panes (.pass (passWork i c 0 (cols.map .gathered)
         (outs.map (if i.f3 48 48 == 1 then .compare else .mem))))
     | _, _ => endNow s e i i.panes 0x60 5)

/-- The rows of REBUILD or VERIFY. -/
def rowsOf (i : RawInstr) (erased : Nat) (out : Option Walk) : RowsWork :=
  { opcode := i.op, window := i.window, first := i.firstRow, rowStep := i.rowStep, panes := i.panes, done := 0, erased := erased,
    out := out, drill := i.op == 0x14 && i.f3 48 48 == 1, check := i.op == 0x14 && i.f3 49 49 == 1,
    reencode := i.op == 0x15 && i.f3 48 48 == 1, restarts := 0, lent := 0 }

/-- REBUILD at dispatch. The engine adds its own column to ERASED, so OUT_FIRST 0 always names an output. -/
def beginRebuild (s : State) (e : EngineId) (i : RawInstr) : State :=
  let g := geo s e
  let c := parseCoeff (i.f3 47 0)
  let drill := i.f3 48 48 == 1
  let b := i.f1 31 16
  guardAll s e i i.panes [
    (passReserved i || i.f1 15 0 != 0 || (!drill && (b != 0 || i.f3 49 49 != 0)) || (drill && reg s e regDescCount < b + 1), 0x60, 4),
    (!rowsOk s e i || c.kind != 3 || c.outFirst != 0 || c.erased / 2 ^ g.n != 0 || (!drill && windowClass s e i == 1), 0x60, 5),
    ((survivors g c.erased).isNone, 0x10, 5), (i.panes == 0, 0x01, 6), (drill && !descReadable s e b 1, 0x40, 5)]
    (if drill then
       match passWalker s e b i.panes with
       | some w => launchArray s e i i.panes (.rows (rowsOf i c.erased (some w)))
       | none => endNow s e i i.panes 0x60 5
     else launchArray s e i i.panes (.rows (rowsOf i c.erased none)))

/-- VERIFY at dispatch. -/
def beginVerify (s : State) (e : EngineId) (i : RawInstr) : State :=
  guardAll s e i i.panes [
    (passReserved i || i.f1 31 0 != 0 || i.f3 47 0 != 0 || i.f3 49 49 != 0, 0x60, 4),
    (!rowsOk s e i, 0x60, 5), (i.panes == 0, 0x01, 6)]
    (launchArray s e i i.panes (.rows (rowsOf i 0 none)))

/-- PRISM runs a pass over its descriptor's bindings (12 R345). -/
def execPrism (i : EngineInstr) (s : State) : Out := .next (route paneUnits beginPrism (rowInstr 0x10 i 0 0) s)

/-- ENCODE forms parity from k walks of data (12 R345). -/
def execEncode (i : EngineInstr) (s : State) : Out := .next (route paneUnits beginEncode (rowInstr 0x11 i 0 0) s)

/-- DELTA writes panes of a STATE window as coded writes (12 R345, R346). -/
def execDelta (i : EngineInstr) (s : State) : Out := .next (route paneUnits beginDelta (rowInstr 0x12 i 0 0) s)

/-- DECODE decodes erased columns from gathered rows (12 R345). -/
def execDecode (i : EngineInstr) (s : State) : Out := .next (route paneUnits beginDecode (rowInstr 0x13 i 0 0) s)

/-- REBUILD installs this member's panes anew (12 R345, R346). -/
def execRebuild (i : EngineInstr) (s : State) : Out := .next (route paneUnits beginRebuild (rowInstr 0x14 i (2 ^ 48) 0) s)

/-- REBUILD with DRILL writes a drill copy and installs nothing (12 R346). -/
def execRebuildDrill (i : EngineInstr) (s : State) : Out :=
  .next (route paneUnits beginRebuild (rowInstr 0x14 i (2 ^ 48) (2 ^ 48)) s)

/-- VERIFY in mode CHECK (11 R318). -/
def execVerifyCheck (i : EngineInstr) (s : State) : Out := .next (route paneUnits beginVerify (rowInstr 0x15 i (2 ^ 48) 0) s)

/-- VERIFY in mode REENCODE (11 R318). -/
def execVerifyReencode (i : EngineInstr) (s : State) : Out :=
  .next (route paneUnits beginVerify (rowInstr 0x15 i (2 ^ 48) (2 ^ 48)) s)

end Sys2Proof.Machine
end

