-- ==== Sys2Proof/Machine/Recon.lean ====
section
/-!
DEFINITION. Reconciling the rows of a spare after a loss while a step was being swept: the choice of a version, the final panes, the
panes handed between spares and the repair of the holders (07 R213-R218, 09 R269), with the repairs of 11 R316 that arrive the same way.
-/

namespace Sys2Proof.Machine

open Sys2Proof

/-! ## Decoding a row (07 R214, R218) -/

/-- A column decoded from the panes of a row, where the rank is reached (04 R111-R113). -/
def decodeColumn (o : Geo) (erased target : Nat) (pane : Nat → List Byte) : Option (List Byte) :=
  match survivors o erased, decodeRow o erased target with
  | some cols, some cs => some ((cols.zip cs).foldl (fun acc p => xorBytes acc (gfScale p.2 (pane p.1))) (zeros 4096))
  | _, _ => none

/-- The columns of a list as a mask. -/
def maskOfCols (cs : List Nat) : Nat := cs.foldl (fun m c => m ||| 2 ^ c) 0

/-- The parity columns among an operation's sources. -/
def Install.parities (n : Install) (k : Nat) : List Nat := (n.sources.map (·.column)).filter (fun c => k ≤ c)

/-- The lost columns that a parity column covers. -/
def Install.covers (s : State) (e : EngineId) (n : Install) (p : Nat) : Nat :=
  maskOfCols ((n.lost s e).filter (fun j => ((geo s e).covered p).contains j))

/-- The pattern of a surviving parity holder: the lost columns that it covers and whose bit its mask word sets for the step. -/
def Install.pattern (s : State) (e : EngineId) (n : Install) (step p : Nat) : Nat :=
  match n.sources.find? (·.column == p) with
  | some x => if x.tag == step then x.mask &&& n.covers s e p else 0
  | none => 0

/-- The parity columns whose pattern disagrees with a version vector, which names the columns that are new. -/
def Install.against (s : State) (e : EngineId) (n : Install) (step v : Nat) : Nat :=
  maskOfCols ((n.parities (geo s e).k).filter (fun p => n.pattern s e step p != v &&& n.covers s e p))

/-- Every subset of a list of columns, as masks. -/
def subsetMasks : List Nat → List Nat
  | [] => [0]
  | j :: js => let r := subsetMasks js
               r ++ r.map (· + 2 ^ j)

/-- The version vector of 07 R214: the usable one with the fewest old columns, the smallest set of them among equals. -/
def chooseVersion (s : State) (e : EngineId) (n : Install) (step : Nat) : Option Nat :=
  let lost := n.lost s e
  let full := maskOfCols lost
  let size := fun (m : Nat) => (lost.filter (bit m)).length
  let olds := (subsetMasks lost).mergeSort (fun a b => size a < size b || (size a == size b && a ≤ b))
  (olds.map (full - ·)).find? (fun v => (survivors (geo s e) (n.mask s e ||| n.against s e step v)).isSome)

/-- The columns of holders that are not used with some ERASED mask. -/
def Install.holdersIn (s : State) (e : EngineId) (n : Install) (erased : Nat) : List Nat :=
  (n.parities (geo s e).k).filter (fun p => !bit erased p)

/-- A lost column as each of the holders that cover it has it, in ascending column order: each decodes it without the others (07 R218;
notes/assumptions/31.md, DESIGN CHOICE). -/
def Install.says (s : State) (e : EngineId) (n : Install) (erased j : Nat) : List (Nat × List Byte) :=
  let o := geo s e
  let hs := (n.holdersIn s e erased).filter (fun p => (o.covered p).contains j)
  hs.filterMap (fun p => (decodeColumn o (erased ||| maskOfCols (hs.filter (· != p))) j n.pane).map (fun b => (p, b)))

/-- A lost column's content. Where the records name it and its holders differ, the local parity's value stands, else that of the lowest
global column, and that holder is the keeper (07 R218). -/
def Install.resolve (s : State) (e : EngineId) (n : Install) (erased j : Nat) : List Byte × Option Nat :=
  let plain := (decodeColumn (geo s e) erased j n.pane).getD (zeros 4096)
  if !bit n.torn j then (plain, none)
  else match n.says s e erased j with
    | [] => (plain, none)
    | x :: rest => (x.2, if rest.all (fun y => y.2 == x.2) then none else some x.1)

/-- The keeper of every lost column whose holders differ. -/
def Install.keepers (s : State) (e : EngineId) (n : Install) (erased : Nat) : List (Nat × Nat) :=
  (n.lost s e).filterMap (fun j => (n.resolve s e erased j).2.map (fun p => (j, p)))

/-- A holder is re-encoded for a torn write: it covers such a column and is not its keeper. -/
def tornAt (o : Geo) (keepers : List (Nat × Nat)) (p : Nat) : Bool := keepers.any (fun k => k.2 != p && (o.covered p).contains k.1)

/-- The panes of a row with its lost columns decoded. -/
def Install.whole (s : State) (e : EngineId) (n : Install) (erased c : Nat) : List Byte :=
  if (n.lost s e).contains c then (n.resolve s e erased c).1 else n.pane c

/-- A torn write is resolved: the record and the count (07 R218). -/
def tornWrite (s : State) (e : EngineId) (n : Install) : State :=
  bump (raise s e evTornWrite 1 (argsRow n.window n.row)) e cntTornWrites 1

/-! ## Rows under reconciliation -/

def setRecon (s : State) (e : EngineId) (r : Recon) : State :=
  s.modReb e (fun b => { b with recons := r :: b.recons.filter (fun x => !(x.window == r.window && x.row == r.row)) })
def dropRecon (s : State) (e : EngineId) (window row : Nat) : State :=
  s.modReb e (fun b => { b with recons := b.recons.filter (fun x => !(x.window == window && x.row == row)) })

/-- A row whose pane has been decoded at an old version. -/
def oldRecon (window row : Nat) (old : List Byte) : Recon :=
  { window := window, row := row, awaits := false, multi := false, back := none, old := old, behind := 0, absent := false, done := false }

/-- Write a reconciled pane of this member with the step's tag, REBUILT set (07 R215). *PANES_INSTALLED* counts background and on-demand
installs alone (17, "What the counters show"). -/
def putReconciled (s : State) (e : EngineId) (w : Window) (row tag : Nat) (content : List Byte) : State :=
  let l : Ledger := { stepTag := tag, version := 0, column := columnHere s e row, degraded := false, rebuilt := true,
                      pending := pendingAt s e w row, there := true }
  stampInstalled (storePane s e 2 w row allGranules content) e w row l (0, 0)

/-- The surviving holders that cover a column and do not hold it at the step. -/
def Install.behind (s : State) (e : EngineId) (n : Install) (step j : Nat) : List Nat :=
  (n.parities (geo s e).k).filter (fun p => ((geo s e).covered p).contains j && !bit (n.pattern s e step p) j)

/-- The old content of a column from a holder's own equation (07 R215). -/
def Install.oldFrom (s : State) (e : EngineId) (n : Install) (j p : Nat) : List Byte :=
  (decodeColumn (geo s e) (n.mask s e ||| maskOfCols ((n.parities (geo s e).k).filter (· != p))) j n.pane).getD (zeros 4096)

/-- One lost column, new: written, the holders behind it sent the difference. -/
def reconcileNew (s : State) (e : EngineId) (n : Install) (w : Window) (step : Nat) (content : List Byte) : State :=
  let late := n.behind s e step n.column
  let delta := match late with
    | [] => []
    | p :: _ => xorBytes content (n.oldFrom s e n.column p)
  let s := putReconciled s e w n.row step content
  let s := modInstall s e n.id (fun x => { x with finals := [(n.column, step, content)] })
  let s := if delta.any (· != 0) then
      bump (sendPane s e (.install n.id) (holderList s e n.row n.column) 0 kindDelta w.number n.row step (deltaChunks delta)) e
        cntHoldersRepaired late.length
    else s
  release s e n

/-- One lost column, old: it awaits its recomputation. -/
def reconcileOld (s : State) (e : EngineId) (n : Install) (w : Window) (content : List Byte) : State :=
  release (setRecon s e { oldRecon w.number n.row content with behind := (holderList s e n.row n.column).length, absent := n.allAbsent }) e n

/-- Several lost columns, the lowest of them here, or a torn row: the other decoded panes go to the spares that hold them (07 R216), and
the holders are re-encoded once every final pane is known. -/
def reconcileMany (s : State) (e : EngineId) (n : Install) (w : Window) (step v erased : Nat) : State :=
  let c := (s.eng e).job.committed
  let s := if (n.keepers s e erased).isEmpty then s else tornWrite s e n
  let s := ((n.lost s e).filter (· != n.column)).foldl (fun s j =>
    sendHandoff s e (.install n.id) ((geo s e).slotOf n.row j) n.window n.row j (if bit v j then step else c) (bit v j) 0
      (n.resolve s e erased j).1) s
  let content := (n.resolve s e erased n.column).1
  let s := modInstall s e n.id (fun x => { x with phase := .handing })
  if bit v n.column then
    modInstall (putReconciled s e w n.row step content) e n.id (fun x => { x with finals := AList.set x.finals n.column (step, content) })
  else setRecon s e { oldRecon w.number n.row content with multi := true, absent := n.allAbsent }

/-- A lost gradient pane of the step: from the holders of that step, the columns that sealed nothing as zeros; a surviving holder of
another step shows that nothing was sealed (07 R202). -/
def reconcileGradient (s : State) (e : EngineId) (n : Install) (w : Window) (step : Nat) : State :=
  let o := geo s e
  let ps := n.sources.filter (fun x => o.k ≤ x.column)
  let sealed_ := ps.all (fun x => x.tag == step) && ps.any (fun x => bit x.mask n.column)
  if !sealed_ then release (markInstalled s e w n.row) e n
  else match decodeColumn o (n.mask s e) n.column (fun c =>
      if c < o.k && !ps.any (fun x => bit x.mask c) then zeros 4096 else n.pane c) with
    | none => undecodable s e n
    | some content => release (putReconciled s e w n.row step content) e n

/-- A row has been gathered for its reconciliation. A spare that does not hold the lowest lost column waits for its pane (07 R216). -/
def reconcileRow (s : State) (e : EngineId) (n : Install) (w : Window) (step : Nat) : State :=
  if w.cls == 1 then reconcileGradient s e n w step
  else match chooseVersion s e n step with
    | none => undecodable s e n
    | some v =>
      let lost := n.lost s e
      let n := { n with torn := n.sources.foldl (fun m x => m ||| x.named) 0 &&& maskOfCols lost }
      let s := modInstall s e n.id (fun x => { x with torn := n.torn })
      let erased := n.mask s e ||| n.against s e step v
      let content := (n.resolve s e erased n.column).1
      if lost.head? != some n.column then
        (if (reconAt s e w.number n.row).isSome then release s e n
         else release (setRecon s e { oldRecon w.number n.row [] with awaits := true, multi := true }) e n)
      else if lost == [n.column] && (n.keepers s e erased).isEmpty then
        (if bit v n.column then reconcileNew s e n w step content else reconcileOld s e n w content)
      else reconcileMany s e n w step v erased

/-- Every final pane of a row is known and every pane handed over acknowledged: the holders that do not hold all columns stamped at the
step, and those of a torn write, are re-encoded (07 R215, R218). -/
def reencodeRow (s : State) (e : EngineId) (n : Install) (step : Nat) : State :=
  let o := geo s e
  let erased := n.mask s e ||| n.against s e step ((chooseVersion s e n step).getD 0)
  let pane := fun (c : Nat) => match AList.get? n.finals c with
    | some b => b.2
    | none => n.pane c
  let stamped := maskOfCols ((n.finals.filter (fun f => f.2.1 == step)).map (·.1))
  let torn := n.keepers s e erased
  let late := (n.parities o.k).filter (fun p =>
    (n.pattern s e step p) &&& stamped != (n.covers s e p) &&& stamped || tornAt o torn p)
  let s := late.foldl (fun s p =>
    sendHandoff s e (.install n.id) (o.slotOf n.row p) n.window n.row p step true (n.covers s e p &&& stamped) (encodeOf o pane p)) s
  modInstall (bump s e cntHoldersRepaired late.length) e n.id (fun x => { x with phase := .repairing })

/-- The re-encoded parity is written: the panes that came back are acknowledged, so that their spares install them (09 R269). -/
def answerFinals (s : State) (e : EngineId) (n : Install) : State :=
  let s := n.acks.foldl (fun s c => answer s e c kindRebuildAck 0 c.step.toNat []) s
  modInstall s e n.id (fun x => { x with acks := [] })

/-- A row under reconciliation whose pane is final joins the row's final panes, or is settled once its holders have the difference (07
R215, R216). -/
def settleRecon (s : State) (e : EngineId) (r : Recon) : State :=
  if !r.done then s
  else if r.multi then
    let tag := match windowRec s e r.window with
      | some w => if rowPresent s e w r.row then rowStep s e w r.row else 0
      | none => 0
    (dropRecon s e r.window r.row).modReb e (fun b => { b with installs := b.installs.map (fun n =>
      if isReconcile n && n.window == r.window && n.row == r.row then
        { n with finals := AList.set n.finals n.column (tag, r.old) } else n) })
  else if (s.eng e).fab.requests.any (fun q => q.owner == .repair r.window r.row) then s
  else bump (dropRecon s e r.window r.row) e cntRowsReconciled 1

/-- A pane whose object no sweep of the step changes is final as it was decoded; one absent everywhere stays absent (03 R103, 07
R215). -/
def finalOld (s : State) (e : EngineId) (r : Recon) : State :=
  match windowRec s e r.window with
  | none => s
  | some w =>
    if r.awaits || r.done || paneInFlight s e r.window r.row then s
    else if r.absent && r.back.isNone then modRecon (markInstalled s e w r.row) e r.window r.row (fun x => { x with done := true })
    else
      let c := (s.eng e).job.committed
      startRecon s e w (paneJob s e .standing 2 c (.reconciled c) false false w r.row allGranules r.old) r

/-- The sweeps of the step have ended here: what they left old is final. -/
def finishRecons (s : State) (e : EngineId) : State := (s.eng e).reb.recons.foldl (fun s r => finalOld s e r) s

/-! ## Handed panes (07 R216, 09 R269, 11 R316) -/

/-- The segments gathered so far of a pane handed over, kept under a HOP that no chain uses. -/
def handKey (hop : Nat) (c : Chunk) (p : ChainPart) : Bool := p.hop == hop && p.window == c.window && p.row == c.row && p.column == c.column

/-- Take a segment of a handed pane; the whole pane, with the columns that its chunks mark, once its sixteen are here. -/
def takeSegment (s : State) (e : EngineId) (hop : Nat) (c : Chunk) : State × Option (List Byte × Nat) :=
  let old := (s.eng e).reb.parts.find? (handKey hop c)
  let i := c.granule / 4
  let segs := AList.set ((old.map (·.segments)).getD []) i (slice c.payload 0 256)
  let marks := (old.map (·.marks)).getD 0 ||| (c.x 1 1 * 2 ^ i) ||| (c.x 0 0 * 2 ^ (16 + i))
  let rest := (s.eng e).reb.parts.filter (fun p => !handKey hop c p)
  if segs.length == 16 then
    (s.modReb e (fun r => { r with parts := rest }), some ((List.range 16).flatMap (fun i => AList.getD segs i (zeros 256)), marks))
  else
    let p : ChainPart := { window := c.window, row := c.row, column := c.column, origin := 0, hop := hop, coeff := 0, nextSlot := 0,
                           segments := segs, marks := marks, frozen := false, gen := c.mapGen }
    (s.modReb e (fun r => { r with parts := p :: rest }), none)

/-- The install that reconciles a row and waits for final panes. -/
def handingFor (s : State) (e : EngineId) (c : Chunk) : Option Install :=
  (s.eng e).reb.installs.find? (fun n => isReconcile n && n.phase == .handing && n.window == c.window && n.row == c.row)

/-- A re-encoded parity pane from the spare that has reconciled a row: the parity, then the mask word with the marked columns (07
R215). -/
def takeReencoded (s : State) (e : EngineId) (w : Window) (c : Chunk) (content : List Byte) (marks : Nat) : State :=
  let step := c.step.toNat
  let s := repairOwn s e w c.row content none
  if marks == 0 then s
  else
    let s := noteMem (setMask s e w c.row step (maskFor s e w c.row step ||| marks)) e 2 none true (w.maskAt c.row) 8
    let l := ledgerOf s e w c.row
    storeLedger s e 2 w c.row { l with stepTag := max l.stepTag step }

/-- A decoded pane handed to this spare. Content at the step being reconciled is final and goes back at once; earlier content goes back
once this spare's recovery sweep has recomputed it. It is installed once that is acknowledged (07 R216, 09 R269). -/
def takeHanded (s : State) (e : EngineId) (w : Window) (src : Nat) (c : Chunk) (content : List Byte) : State :=
  let r := { oldRecon w.number c.row content with multi := true, back := some src }
  let s := setRecon s e r
  if c.x 6 6 == 1 then
    startRecon s e w (paneJob s e .standing 2 c.step.toNat (.reconciled c.step.toNat) false false w c.row allGranules content) r
  else s

/-- A final pane has come back to the spare that reconciles the row; its last chunk is acknowledged once the holders are re-encoded. -/
def takeFinal (s : State) (e : EngineId) (n : Install) (c : Chunk) (content : List Byte) : State :=
  modInstall s e n.id (fun x => { x with finals := AList.set x.finals c.column (c.step.toNat, content), acks := x.acks ++ [c] })

/-- A repair of this member's pane, outside reconciliation (11 R316). -/
def takeRepair (s : State) (e : EngineId) (w : Window) (c : Chunk) (content : List Byte) : State :=
  if w.isHot then answer (repairOwn s e w c.row content none) e c kindRebuildAck 0 c.step.toNat []
  else repairOwn s e w c.row content (some c)

/-- Perform a REBUILD_SUM with HANDOFF: a final pane for the row this spare reconciles, a decoded pane handed to this spare, a
re-encoded parity pane, or a repair (07 R215, R216, 09 R269, 11 R316). -/
def performHandoff (s : State) (e : EngineId) (c : Chunk) : State :=
  match dreadTarget s e c with
  | none => untranslated s e c
  | some (w, src) =>
    let ack := fun (s : State) => answer s e c kindRebuildAck 0 c.step.toNat []
    match handingFor s e c with
    | some n =>
      if c.column == n.column || !bit (n.mask s e) c.column then untranslated s e c
      else match takeSegment s e 0x22 c with
        | (s, some x) => takeFinal s e n c x.1
        | (s, none) => ack s
    | none =>
      if c.column != columnHere s e c.row then untranslated s e c
      else if notInstalled s e w.number c.row then
        match takeSegment s e 0x23 c with
        | (s, some x) => ack (takeHanded s e w src c x.1)
        | (s, none) => ack s
      else if c.x 6 6 == 1 && holdsParity s e c.row then
        match takeSegment s e 0x24 c with
        | (s, some x) => ack (takeReencoded s e w c x.1 x.2)
        | (s, none) => ack s
      else match takeSegment s e 0x20 c with
        | (s, some x) => takeRepair s e w c x.1
        | (s, none) => ack s

end Sys2Proof.Machine
end

