-- ==== Sys2Proof/Machine/Lanes.lean ====
section
/-!
DEFINITION. What the update lanes compute: curves and step records, object descriptors, update programs, and the update of a
run of elements over the panes that hold it (06 R167-R175, R188; 02 R68-R75).
-/

namespace Sys2Proof.Machine

open Sys2Proof

/-! ## The update configuration of a step (06 R188) -/

/-- The register file that governs a step. -/
def updateRegs (s : State) (e : EngineId) (step : Nat) : RegFile :=
  match (s.eng e).dict.oldUpdate with
  | some o => if step ≤ o.limit then o.regs else (s.eng e).dict.regs
  | none => (s.eng e).dict.regs

def updateBlobs (s : State) (e : EngineId) (step : Nat) : BlobFile :=
  match (s.eng e).dict.oldUpdate with
  | some o => if step ≤ o.limit then o.blobs else (s.eng e).dict.blobs
  | none => (s.eng e).dict.blobs

def updReg (s : State) (e : EngineId) (step : Nat) (r : Nat × Nat) : Nat := regIn (isSix s) (updateRegs s e step) r.1 r.2 0
def updElem (s : State) (e : EngineId) (step : Nat) (r : Nat × Nat) (i : Nat) : Nat :=
  regIn (isSix s) (updateRegs s e step) r.1 r.2 i

/-- The update group as 10 R295 serialises it. -/
def updateContent (six : Bool) (regs : RegFile) (blobs : BlobFile) : List Byte :=
  let r := fun (p : Nat × Nat) (i : Nat) => regIn six regs p.1 p.2 i
  let dir := fun i => regIn six regs regProgramDir.1 (regProgramDir.2 + i) 0
  leBytes (r regStepMode 0) 1 ++ leBytes (r regSkipPolicy 0) 1 ++ leBytes (r regNormAnchor 0) 1
  ++ (List.range 16).flatMap (fun i => leBytes (dir i) 4) ++ (List.range 256).flatMap (fun i => leBytes (r regUcodeTable i) 8)
  ++ (List.range 32).flatMap (fun i =>
    let c := blobIn blobs regCurve.1 (regCurve.2 + i)
    leBytes c.length 4 ++ c)

/-- *UPDATE_DIGEST* in force: that of the defaults until a commit (06 R188). -/
def updateDigest (s : State) (e : EngineId) : List Byte :=
  if (s.eng e).dict.digest.isEmpty then blake3 (updateContent (isSix s) [] []) else (s.eng e).dict.digest

/-! ## Curves (06 R173) -/

def curvePoints (bs : List Byte) : List (Nat × F32) :=
  (List.range (bits (leAt bs 0 8) 55 48)).map (fun i => let w := leAt bs (8 + 8 * i) 8; (bits w 63 32, BitVec.ofNat 32 w))

/-- Between two points of a curve. -/
def curveBetween (x : Nat) : List (Nat × F32) → F32
  | [] => 0
  | [p] => p.2
  | p :: q :: rest =>
    if x < q.1 then F32.fma (F32.sub q.2 p.2) (f32OfRatio (x - p.1) (q.1 - p.1)) p.2 else curveBetween x (q :: rest)

/-- b to the power x by squaring, from the highest set bit down. -/
def biasPower (b : F32) : Nat → Nat → F32 → F32
  | 0, _, p => p
  | n + 1, x, p =>
    let p := F32.mul p p
    biasPower b n x (if bit x n then F32.mul p b else p)

/-- The value of a curve at a step. -/
def curveAt (bs : List Byte) (x : Nat) : F32 :=
  let h := leAt bs 0 8
  if bits h 63 56 == 1 then
    let n := if x == 0 then 0 else Nat.log2 x + 1
    F32.div f32One (F32.sub f32One (biasPower (BitVec.ofNat 32 h) n x f32One))
  else match curvePoints bs with
    | [] => 0
    | p :: rest => if x ≤ p.1 then p.2 else curveBetween x (p :: rest)

/-- A curve breaks 06 R173. -/
def curveBad (bs : List Byte) : Bool :=
  let h := leAt bs 0 8
  let n := bits h 55 48
  bs.length != 8 + 8 * n || 1 < bits h 63 56 || (bits h 63 56 == 1 && n != 0) || 64 < n || bits h 47 32 != 0
  || !ascending ((curvePoints bs).map (·.1)) || (curvePoints bs).any (fun p => !p.2.isFinite)

/-! ## Step records (06 R169) -/

/-- What a step record gives the lanes: STEP, DECISION, GNORM, CLIP and K0 to K31. -/
structure StepRec where
  step     : Nat
  decision : Nat
  gnorm    : F32
  clip     : F32
  jobId    : Nat
  k        : List F32
deriving DecidableEq, Repr

def parseStep (bs : List Byte) : StepRec :=
  { step := leAt bs 0 4, decision := leAt bs 4 4, gnorm := BitVec.ofNat 32 (leAt bs 8 4), clip := BitVec.ofNat 32 (leAt bs 12 4),
    jobId := bits (leAt bs 16 32) 223 208, k := (List.range 32).map (fun i => BitVec.ofNat 32 (leAt bs (48 + 4 * i) 4)) }

def stepRecAt (s : State) (e : EngineId) (step : Nat) : Nat := reg s e regStepRingBase * 4096 + 256 * (step % 1024)

/-- The 256 bytes of a step's record; none where the ring holds no record of it: an entry of zeros holds no record, and no
record names step 0 (06 R190; DEDUCED, notes/assumptions/33.md). -/
def stepBytes (s : State) (e : EngineId) (step : Nat) : Option (List Byte) :=
  let bs := hbm s e (stepRecAt s e step) 256
  if leAt bs 0 4 == step && bs.any (· != 0) then some bs else none

def stepReadable (s : State) (e : EngineId) (step : Nat) : Bool := readable s e (stepRecAt s e step) 256

/-! ## Object descriptors (06 R174, R175) -/

/-- A field record. -/
structure FieldRec where
  base    : Nat
  scale   : Nat
  format  : Nat
  sto     : Bool
  nonneg  : Bool
  rstream : Nat
  clean   : Bool
deriving DecidableEq, Repr

def parseField (v : Nat) : FieldRec :=
  { base := bits v 95 60, scale := bits v 59 24, format := bits v 23 20, sto := bit v 19, nonneg := bit v 18,
    rstream := bits v 15 0, clean := bits v 17 16 == 0 }

/-- An object descriptor. -/
structure Obj where
  baseIndex  : Nat
  elements   : Nat
  program    : Nat
  fields     : List FieldRec
  packed     : Bool
  gradBase   : Nat
  gradScale  : Nat
  gradFormat : Nat
  layer      : Nat
  slot       : Nat
deriving DecidableEq, Repr

/-- Formats that the interleaved layout allows. -/
def packable (fmt : Nat) : Bool := fmt ≤ 4 || (8 ≤ fmt && fmt ≤ 10)

/-- The object of 128 descriptor bytes; none where it breaks 02 R62 or 06 R175. -/
def parseObj (bs : List Byte) : Option Obj :=
  let h := leAt bs 0 32
  let n := bits h 173 170
  let fields := (List.range n).map (fun i => parseField (leAt bs (32 + 12 * i) 12))
  let gf := bits h 95 92
  if n == 0 || 8 < n || bits h 207 178 % 256 != 0 || 2 ^ 29 < bits h 207 178 || bit h 168 || bits h 67 0 != 0
      || !(gf == 0 || gf == 0xe) || fields.any (fun f => !f.clean || 0xd < f.format || (f.format == 0xa && !f.nonneg))
      || (bit h 169 && fields.any (fun f => !packable f.format)) then none
  else
    some { baseIndex := bits h 255 208, elements := bits h 207 178, program := bits h 177 174, fields := fields, packed := bit h 169,
           gradBase := bits h 167 132, gradScale := bits h 131 96, gradFormat := gf, layer := bits h 91 80, slot := bits h 79 68 }

def objAt (s : State) (e : EngineId) (d : Nat) : Option Obj := (descEntries s e d 2).bind parseObj

/-- Bytes of one packed record. -/
def Obj.stride (o : Obj) : Nat := o.fields.foldl (fun n f => n + elemBits f.format / 8) 0

/-- Byte ranges that elements `a` to `b - 1` take in every plane of every field. -/
def Obj.ranges (o : Obj) (a b : Nat) : List (Nat × Nat) :=
  if o.packed then [(((o.fields.head?).map (·.base)).getD 0 + a * o.stride, (b - a) * o.stride)]
  else o.fields.flatMap (fun f =>
    let w := elemBits f.format
    (f.base + a * w / 8, b * w / 8 - a * w / 8) ::
      (if blockSize f.format == 32 then [(f.scale + a / 32, (b - a) / 32)] else []))

/-- Pane numbers that byte ranges cover, ascending within each range. -/
def panesOf (rs : List (Nat × Nat)) : List Nat :=
  (rs.flatMap (fun r => if r.2 == 0 then [] else (List.range ((r.1 + r.2 - 1) / 4096 - r.1 / 4096 + 1)).map (· + r.1 / 4096))).eraseDups

/-- The state panes of an element range. -/
def Obj.panes (o : Obj) (a b : Nat) : List Nat := panesOf (o.ranges a b)

/-- A pane of the stack is a state pane stamped at a step (07 R191, step 1). -/
def stampedAt (s : State) (e : EngineId) (step p : Nat) : Bool :=
  match windowAt s e (p * 4096) with
  | some (w, r) => rowPresent s e w r && step ≤ rowStep s e w r
  | none => false

/-- Element `x` starts at a pane boundary of every plane (06 R350's condition). -/
def Obj.atBoundary (o : Obj) (x : Nat) : Bool := (o.ranges x (x + 256)).all (fun r => r.1 % 4096 == 0)

/-- The end of the sweep block that starts at an element (07 R435). -/
def blockEnd (o : Obj) : Nat → Nat → Nat
  | 0, x => x
  | n + 1, x => let y := x + 256
                if o.elements ≤ y || o.atBoundary y then min y o.elements else blockEnd o n y

/-- The sweep blocks of an element range. -/
def blocksOf (o : Obj) : Nat → Nat → Nat → List (Nat × Nat)
  | 0, _, _ => []
  | n + 1, x, last =>
    if last ≤ x then []
    else
      let y := min last (blockEnd o 512 x)
      (x, y) :: blocksOf o n y last

/-- Byte ranges of the gradient planes: element plane, and for G16S the scale plane (06 R161). -/
def Obj.gradRanges (o : Obj) (a b : Nat) : List (Nat × Nat) :=
  if o.gradFormat == 0 then [(o.gradBase + 4 * a, 4 * (b - a))]
  else [(o.gradBase + 2 * a, 2 * (b - a)), (o.gradScale + a / 64, (b - a) / 64)]

def Obj.gradPanes (o : Obj) : List Nat := panesOf (o.gradRanges 0 o.elements)

/-- Whole panes of the gradient planes, plane by plane: how many each has. -/
def Obj.gradPlanes (o : Obj) : List (Nat × Nat) := (o.gradRanges 0 o.elements).map (fun r => (r.1, (r.2 + 4095) / 4096))

/-- A pane number lies in a window of a class on a row in which this member holds data. -/
def paneInClass (s : State) (e : EngineId) (cls p : Nat) : Bool :=
  match windowAt s e (p * 4096) with
  | some (w, r) => w.cls == cls && holdsData s e r
  | none => false

/-! ## Programs (06 R170-R172) -/

/-- ENTRY, LENGTH and VALID of a directory word. -/
def dirWord (s : State) (e : EngineId) (step p : Nat) : Nat :=
  regIn (isSix s) (updateRegs s e step) regProgramDir.1 (regProgramDir.2 + p) 0

/-- The microinstructions of a program; none where its directory word is not valid. -/
def programOf (s : State) (e : EngineId) (step p : Nat) : Option (List Nat) :=
  let d := dirWord s e step p
  if bit d 15 then some ((List.range (bits d 14 8)).map (fun i => updElem s e step regUcodeTable (bits d 7 0 + i))) else none

/-- The fields that a program touches, up to its END. -/
def fieldsUsed : List Nat → List Nat
  | [] => []
  | w :: ws =>
    let op := bits w 63 58
    if op == 0 then [] else if op == 1 || op == 3 then bits w 35 32 :: fieldsUsed ws else fieldsUsed ws

/-- What an element's program sees beside its registers. -/
structure LaneCtx where
  rec_   : StepRec
  fields : List F32
  grad   : F32

def laneOperand (c : LaneCtx) (v : List F32) (imm code : Nat) : F32 :=
  if code < 0x10 then v.getD code 0
  else if code < 0x30 then c.rec_.k.getD (code - 0x10) 0
  else if code == 0x30 then c.rec_.clip
  else if code == 0x31 then c.rec_.gnorm
  else if code == 0x32 then BitVec.ofNat 32 imm
  else if code == 0x34 then f32One
  else 0

def f32Sign (a : F32) : F32 :=
  if a.isNan then f32Nan else if F32.lt 0 a then f32One else if F32.lt a 0 then F32.neg f32One else 0

def f32Sel (a b c : F32) : F32 := if a.isNan || b.isNan || c.isNan then f32Nan else if F32.le 0 a || a.isZero then b else c

/-- The result of an arithmetic operation. -/
def laneResult (op : Nat) (a b c : F32) : F32 :=
  match op with
  | 0x04 => if a.isNan then f32Nan else a
  | 0x08 => F32.add a b
  | 0x09 => F32.sub a b
  | 0x0a => F32.mul a b
  | 0x0b => F32.div a b
  | 0x0c => F32.fma a b c
  | 0x0d => F32.sqrt a
  | 0x0e => F32.max a b
  | 0x0f => F32.min a b
  | 0x10 => F32.abs a
  | 0x11 => F32.neg a
  | 0x12 => f32Sign a
  | _ => f32Sel a b c

/-- Run a program on one element: the values stored, by field, the latest first. LDF gives the field as it was before the
update (notes/assumptions/20.md). -/
def runLane (c : LaneCtx) : List Nat → List F32 → AList Nat F32 → AList Nat F32
  | [], _, out => out
  | w :: ws, v, out =>
    let op := bits w 63 58
    let dst := bits w 57 54
    let src := fun hi lo => laneOperand c v (bits w 31 0) (bits w hi lo)
    if op == 0 then out
    else if op == 1 then runLane c ws (v.set dst (c.fields.getD (bits w 35 32) 0)) out
    else if op == 2 then runLane c ws (v.set dst c.grad) out
    else if op == 3 then runLane c ws v (AList.set out (bits w 35 32) (src 53 48))
    else runLane c ws (v.set dst (laneResult op (src 53 48) (src 47 42) (src 41 36))) out

/-! ## Panes under update -/

/-- The panes of a computation, by number in the stack. -/
abbrev Img := AList Nat (List Byte)

/-- Read up to a pane of bytes at a stack address. -/
def imgRead (m : Img) (a n : Nat) : List Byte :=
  let o := a % 4096
  let k := min n (4096 - o)
  slice (AList.getD m (a / 4096) []) o k ++ (if k < n then slice (AList.getD m (a / 4096 + 1) []) 0 (n - k) else [])

/-- Write up to a pane of bytes at a stack address. -/
def imgWrite (m : Img) (a : Nat) (bs : List Byte) : Img :=
  let o := a % 4096
  let k := min bs.length (4096 - o)
  let m := AList.set m (a / 4096) (patch (slice (AList.getD m (a / 4096) []) 0 4096) o (bs.take k))
  if k < bs.length then AList.set m (a / 4096 + 1) (patch (slice (AList.getD m (a / 4096 + 1) []) 0 4096) 0 (bs.drop k)) else m

/-- The content of a pane of the stack: zeros where it is an absent pane of a coded window (03 R101). -/
def paneContent (s : State) (e : EngineId) (p : Nat) : List Byte :=
  match windowAt s e (p * 4096) with
  | some (w, r) => rowNow s e w r
  | none => hbm s e (p * 4096) 4096

def imgOf (s : State) (e : EngineId) (ps : List Nat) : Img := ps.map (fun p => (p, paneContent s e p))

/-! ## One unit of 256 elements (06 R177) -/

/-- The element codes and scales of a field in a unit. -/
def unitCodes (o : Obj) (m : Img) (i x : Nat) : List Nat × List Nat :=
  match o.fields[i]? with
  | none => ([], [])
  | some f =>
    let w := elemBits f.format
    if o.packed then
      let off := (o.fields.take i).foldl (fun n g => n + elemBits g.format / 8) 0
      let base := ((o.fields.head?).map (·.base)).getD 0
      ((List.range 256).map (fun k => leNat (imgRead m (base + (x + k) * o.stride + off) (w / 8))), [])
    else
      let plane := imgRead m (f.base + x * w / 8) (32 * w)
      ((List.range 256).map (elemAt plane w),
       if blockSize f.format == 32 then (imgRead m (f.scale + x / 32) 8).map (·.toNat) else [])

/-- The FP32 values of a field in a unit. -/
def unitValues (f : FieldRec) (cs : List Nat × List Nat) : List F32 :=
  if blockSize f.format == 32 then cs.1.zipIdx.map (fun p => decodeMx f.format (cs.2.getD (p.2 / 32) 0xff) p.1)
  else cs.1.map (decodeElem f.format)

/-- Formats to which stochastic rounding applies: the third row of 02 R68. -/
def stochasticFmt (fmt : Nat) : Bool := (1 ≤ fmt && fmt ≤ 7) || (0xb ≤ fmt && fmt ≤ 0xd)

def roundOf (seed step : Nat) (o : Obj) (f : FieldRec) (x : Nat) : Round :=
  if f.sto && stochasticFmt f.format then .stochastic (roundWord seed f.rstream step ((o.baseIndex + x) % 2 ^ 48)) else .rne

/-- The codes and scales of new values, with how many are flagged and how many saturate (02 R69). -/
def encodeUnit (seed step : Nat) (o : Obj) (f : FieldRec) (x : Nat) (vs : List F32) : List Nat × List Nat × Nat × Nat :=
  let rs := (List.range 256).map (fun k => roundOf seed step o f (x + k))
  if blockSize f.format == 32 then
    let bs := (List.range 8).map (fun b => encodeMx f.format ((rs.drop (32 * b)).take 32) ((vs.drop (32 * b)).take 32))
    (bs.flatMap (·.2.1), bs.map (·.1), (vs.filter (fun v => !v.isFinite)).length, bs.foldl (fun n b => n + b.2.2.2) 0)
  else
    let es := (rs.zip vs).map (fun p => encodeElem f.format p.1 p.2)
    (es.map (·.code), [], (es.filter (·.flag)).length, (es.filter (·.sat)).length)

/-- Write a field's codes and scales of a unit. -/
def writeUnit (o : Obj) (m : Img) (i x : Nat) (cs sc : List Nat) : Img :=
  match o.fields[i]? with
  | none => m
  | some f =>
    let w := elemBits f.format
    if o.packed then
      let off := (o.fields.take i).foldl (fun n g => n + elemBits g.format / 8) 0
      let base := ((o.fields.head?).map (·.base)).getD 0
      cs.zipIdx.foldl (fun m p => imgWrite m (base + (x + p.2) * o.stride + off) (leBytes p.1 (w / 8))) m
    else
      let m := imgWrite m (f.base + x * w / 8) (packElems w cs)
      if sc.isEmpty then m else imgWrite m (f.scale + x / 32) (sc.map (BitVec.ofNat 8))

/-- The sealed gradient of a unit out of its planes' bytes. -/
def unitGrad (fmt : Nat) (elems scales : List Byte) : List F32 :=
  (List.range 256).map (fun k => if fmt == 0 then BitVec.ofNat 32 (leAt elems (4 * k) 4)
    else decodeG16 ((scales.getD (k / 64) 0).toNat) (leAt elems (2 * k) 2))

/-- The panes after an update, with how many stored values were flagged and how many saturated. -/
structure UnitOut where
  img  : Img
  bad  : Nat
  sats : Nat

/-- One update of a unit: the program on every element, then every stored field encoded. -/
def updateUnit (seed : Nat) (o : Obj) (prog : List Nat) (r : StepRec) (x : Nat) (grad : List F32) (u : UnitOut) : UnitOut :=
  let vals := (List.range o.fields.length).map (fun i =>
    match o.fields[i]? with
    | some f => unitValues f (unitCodes o u.img i x)
    | none => [])
  let outs := (List.range 256).map (fun k =>
    runLane { rec_ := r, fields := vals.map (fun l => l.getD k 0), grad := grad.getD k 0 } prog (List.replicate 16 0) [])
  (List.range o.fields.length).foldl (fun u i =>
    match o.fields[i]?, outs.mapM (fun l => AList.get? l i) with
    | some f, some vs =>
      let (cs, sc, bad, sats) := encodeUnit seed r.step o f x vs
      { img := writeUnit o u.img i x cs sc, bad := u.bad + bad, sats := u.sats + sats }
    | _, _ => u) u

/-- A gradient to apply: its step record, and its planes' bytes as a function of the unit. -/
structure GradSrc where
  rec_   : StepRec
  elems  : Nat → List Byte
  scales : Nat → List Byte

/-- Elements `x` to `y - 1`, unit after unit; in each the gradients in their order (08 R238). -/
def updateRange (seed : Nat) (o : Obj) (prog : List Nat) (gs : List GradSrc) : Nat → Nat → UnitOut → UnitOut
  | 0, _, u => u
  | n + 1, x, u =>
    updateRange seed o prog gs n (x + 256)
      (gs.foldl (fun u g => updateUnit seed o prog g.rec_ x (unitGrad o.gradFormat (g.elems x) (g.scales x)) u) u)

/-- The sealed gradient in the object's gradient planes. -/
def gradOwn (s : State) (e : EngineId) (o : Obj) (r : StepRec) (x y : Nat) : GradSrc :=
  let m := imgOf s e (panesOf (o.gradRanges x y))
  { rec_ := r
    elems := fun x => if o.gradFormat == 0 then imgRead m (o.gradBase + 4 * x) 1024 else imgRead m (o.gradBase + 2 * x) 512
    scales := fun x => if o.gradFormat == 0 then [] else imgRead m (o.gradScale + x / 64) 4 }

/-- Byte `b` on of a parcel's gradient panes, from pane `first` of the parcel. -/
def parcelRead (s : State) (e : EngineId) (w : Window) (r : ResEntry) (p first b n : Nat) : List Byte :=
  slice (rowNow s e w (parcelRow s e r p (first + b / 4096))) (b % 4096) n

/-- The gradient of a live parcel, with the step record its header carries (08 R238). -/
def gradParcel (s : State) (e : EngineId) (o : Obj) (w : Window) (p : Nat) : GradSrc :=
  let r := resEntry s e o.slot
  let planes := o.gradPlanes
  let n := ((planes.head?).map (·.2)).getD 0
  { rec_ := parseStep (parcelHead s e w r p).record
    elems := fun x => if o.gradFormat == 0 then parcelRead s e w r p 1 (4 * x) 1024 else parcelRead s e w r p 1 (2 * x) 512
    scales := fun x => if o.gradFormat == 0 then [] else parcelRead s e w r p (1 + n) (x / 64) 4 }

end Sys2Proof.Machine
end

