-- ==== Sys2Proof/Machine/StepOps.lean ====
section
/-!
DEFINITION. The operations of a step before its barrier: SEAL, NORM in both modes, SWEEP and APPLYPEND with what the lanes do
as each pane completes (06 R159-R169, R176-R184; 07 R191, R201, R210; 08 R236-R240; 11 R317, R330; 12 R348-R350).
-/

namespace Sys2Proof.Machine

open Sys2Proof

/-- The descriptor table's bytes. -/
def descRange (s : State) (e : EngineId) : Nat × Nat := (reg s e regDescBase * 4096, 64 * reg s e regDescCount)

/-- A byte range meets a coded window, the accumulation region or the descriptor table. -/
def meetsReserved (s : State) (e : EngineId) (a n : Nat) : Bool :=
  touchesWindow s e a n || touchesAcc s e a n || overlap (a, n) (descRange s e)

/-! ## The norm registers (06 R162) -/

def normReg (s : State) (e : EngineId) (step : Nat) : NormReg :=
  ((s.eng e).job.norms.find? (·.step == step)).getD { step := step, sum := 0, nonfinite := false, overflow := false, alert := false }

def setNorm (s : State) (e : EngineId) (n : NormReg) : State :=
  s.modJob e (fun j => { j with norms := n :: j.norms.filter (fun x => x.step != n.step) })

/-- Add a square in grid units; a sum that would reach 2^128 keeps its value and is no longer added to (06 R162;
notes/assumptions/56.md, DESIGN CHOICE). -/
def NormReg.add (n : NormReg) (q : Nat) : NormReg :=
  if n.overflow then n else if 2 ^ 128 ≤ n.sum + q then { n with overflow := true } else { n with sum := n.sum + q }

/-- One of the two lowest uncommitted steps (07 R190). -/
def openStep (s : State) (e : EngineId) (step : Nat) : Bool :=
  step == (s.eng e).job.committed + 1 || step == (s.eng e).job.committed + 2

/-! ## SEAL (06 R159-R163) -/

/-- What sealing a tile gives: its bytes in both planes, its squares in grid units with whether each lost bits, whether it is
flagged, and its saturations. -/
structure SealedTile where
  elems   : List Byte
  scales  : List Byte
  squares : List (Nat × Bool)
  flagged : Bool
  sats    : Nat

/-- A square of m * 2^x in units of 2^u, truncated. -/
def gridSquare (m : Nat) (x u : Int) : Nat × Bool :=
  let sh := 2 * x - u
  if 0 ≤ sh then (m * m * 2 ^ sh.toNat, false) else (m * m / 2 ^ (-sh).toNat, m * m % 2 ^ (-sh).toNat != 0)

/-- The norm grid's exponent: 2 E_n - 80. -/
def normGrid (anchor : Nat) : Int := 2 * ((anchor : Int) - 127) - 80

/-- Seal one tile (06 R160). -/
def sealTile (s : State) (e : EngineId) (a : AccSlot) (anchor tile : Nat) : SealedTile :=
  let r := tileRec s e a tile
  let vals := tileValues s e a tile
  let u := normGrid anchor
  if a.sealFormat == 0xe then
    if r.flagged then
      { elems := (List.replicate 256 [0x00, 0x80]).flatten, scales := List.replicate 4 0xff, squares := [], flagged := true, sats := 0 }
    else
      let bs := (List.range 4).map (fun i => encodeG16 ((vals.drop (64 * i)).take 64))
      { elems := bs.flatMap (fun b => b.2.1.flatMap (fun c => leBytes c 2))
        scales := bs.map (fun b => BitVec.ofNat 8 b.1)
        squares := bs.flatMap (fun b => b.2.1.map (fun c => gridSquare (signed c 16).natAbs ((b.1 : Int) - 141) u))
        flagged := false
        sats := bs.foldl (fun n b => n + b.2.2) 0 }
  else
    let fs := vals.map Val.f32
    let flagged := r.flagged || fs.any (fun f => !f.isFinite)
    { elems := fs.flatMap (fun f => leBytes (if flagged then f32Nan else f).toNat 4)
      scales := []
      squares := if flagged then [] else fs.map (fun f => match f.val with
        | .fin _ m x => gridSquare m x u
        | _ => (0, false))
      flagged := flagged
      sats := 0 }

/-- The whole panes of a plane. -/
def planePanes (s : State) (e : EngineId) (base : Nat) (bytes : List Byte) : List PaneOut :=
  (List.range ((bytes.length + 4095) / 4096)).filterMap (fun i =>
    (windowAt s e (base + 4096 * i)).map (fun p => { window := p.1.number, row := p.2, content := slice bytes (4096 * i) 4096 }))

/-- Record an outcome in the seal table, over the entry of the same parity (06 R163). -/
def setSeal (s : State) (e : EngineId) (object step outcome : Nat) : State :=
  (sramWrite s e sramLedger (itemSeal object step)).modJob e (fun j => { j with
    seals := { object := object, step := step, outcome := outcome }
      :: j.seals.filter (fun x => !(x.object == object && x.step % 2 == step % 2)) })

/-- A gradient pane carries the tag of another uncommitted step (07 R201). -/
def gradHeld (s : State) (e : EngineId) (step p : Nat) : Bool :=
  match windowAt s e (p * 4096) with
  | some (w, r) => rowPresent s e w r && !rowErased s e w r && (s.eng e).job.committed < rowStep s e w r && rowStep s e w r != step
  | none => false

/-- The conditions of 06 R159. -/
def sealAllowed (s : State) (e : EngineId) (o : Obj) (a : AccSlot) (step : Nat) : Bool :=
  a.state == .closed && a.step == step && openStep s e step && o.elements == a.elements && o.gradFormat == a.sealFormat
  && o.gradBase % 4096 == 0 && (o.gradFormat == 0 || o.gradScale % 4096 == 0)
  && o.gradPanes.all (paneInClass s e 1) && !o.gradPanes.any (gradHeld s e step)

/-- Start the panes of a SEAL that need not wait, in order; once all are stamped the SEAL records its outcome (06 R163). -/
def pumpSeal : Nat → State → EngineId → Nat → State
  | 0, s, _, _ => s
  | n + 1, s, e, id =>
    match findOp s e id with
    | none => s
    | some op => match op.work with
      | .seal object step todo outcome =>
        match todo with
        | p :: rest =>
          if paneWaits s e p.window p.row then (if rowFrozen s e p.window p.row then bumpCycles s e cntFreezeHoldCycles 0 else s)
          else match windowRec s e p.window with
            | none => pumpSeal n (setWork s e id (.seal object step rest outcome)) e id
            | some w =>
              let (s, ok) := checkRow s e w p.row
              if !ok then s
              else
                let s := setWork s e id (.seal object step rest outcome)
                pumpSeal n (startPane s e (.op id) kindGparity step (.sealed step) false true w p.row allGranules p.content) e id
        | [] =>
          if (s.eng e).fab.jobs.any (fun j => j.owner == .op id) then s
          else
            let s := setSeal s e object step (if outcome == 0 then 0 else 1)
            endWork (freeSlot s e (op.ins.f3 5 0)) e id outcome
      | _ => s

/-- The panes that a SEAL's descriptor gives as units: those of both gradient planes. -/
def sealUnits (s : State) (e : EngineId) (i : RawInstr) : Nat :=
  match objAt s e (i.f1 15 0) with
  | some o => o.gradPanes.length
  | none => 1

/-- Seal a closed group: the norm partial at once, the gradient panes into the update path. -/
def sealGroup (s : State) (e : EngineId) (i : RawInstr) (o : Obj) (a : AccSlot) (step : Nat) : State :=
  let ts := (List.range (a.elements / 256)).map (sealTile s e a (updReg s e step regNormAnchor))
  let flagged := ts.any (·.flagged)
  let sats := ts.foldl (fun n t => n + t.sats) 0
  let sq := ts.flatMap (·.squares)
  let n := sq.foldl (fun n q => n.add q.1) (normReg s e step)
  let s := setNorm s e { n with nonfinite := n.nonfinite || flagged, alert := n.alert || sats != 0 }
  let s := bump s e cntNormTruncated (sq.filter (·.2)).length
  let s := bump s e cntSaturations sats
  let todo := planePanes s e o.gradBase (ts.flatMap (·.elems)) ++
    (if o.gradFormat == 0 then [] else planePanes s e o.gradScale (ts.flatMap (·.scales)))
  let rounded := ts.zipIdx.any (fun t => t.1.flagged && !(tileRec s e a t.2).flagged)
  let status := if !flagged then 0x00 else if a.nonfinite || rounded then 0x20 else 0x21
  let id := nextOp s e
  let s := launch s e i none (sealUnits s e i) (.seal o.slot step todo status)
  pumpSeal (todo.length + 1) s e id

/-- SEAL at dispatch. -/
def beginSeal (s : State) (e : EngineId) (i : RawInstr) : State :=
  let d := i.f1 15 0
  let step := i.f3 63 32
  let u := sealUnits s e i
  if i.f1 63 16 != 0 || i.body.w2 != 0 || i.f3 31 6 != 0 || reg s e regDescCount < d + 2 then endNow s e i u 0x60 4
  else if !descReadable s e d 2 then endNow s e i u 0x40 5
  else match objAt s e d with
    | none => endNow s e i u 0x60 5
    | some o =>
      let g := i.f3 5 0
      let a := accSlot s e g
      if !sealAllowed s e o a step then endNow s e i u 0x60 5
      else if a.incomplete then endNow (freeSlot s e g) e i u 0x10 0
      else if a.damaged then endNow (freeSlot s e g) e i u 0x40 0
      else if a.empty then endNow (freeSlot (setSeal s e o.slot step 2) e g) e i u 0x01 0
      else
        let (s, ok) := sealFetch s e a
        if ok then sealGroup s e i o a step else endNow (freeSlot s e g) e i u 0x40 0

/-- SEAL writes the sealed gradient of a closed group (06 R159). -/
def execSeal (i : EngineInstr) (s : State) : Out := .next (route sealUnits beginSeal (rowInstr 0x23 i 0 0) s)

/-! ## NORM (06 R164-R169) -/

/-- The 32-byte record of a norm register. -/
def normBytes (jobId : Nat) (n : NormReg) : List Byte :=
  leBytes (put n.step 32 224 + put jobId 16 208 + put (b2n n.alert) 1 202 + put (b2n n.overflow) 1 201 + put (b2n n.nonfinite) 1 200
           + put n.sum 128 0) 32

/-- Check 4 and 5 of both modes. -/
def normRefused (s : State) (e : EngineId) (i : RawInstr) : Option Nat :=
  if i.f1 63 36 != 0 || i.body.w2 != 0 || i.f3 31 1 != 0 || i.f1 4 0 != 0 then some 4
  else if meetsReserved s e (i.f1 35 0) 32 || !openStep s e (i.f3 63 32) then some 5
  else none

/-- PUBLISH writes the engine's partial. -/
def beginNormPublish (s : State) (e : EngineId) (i : RawInstr) : State :=
  match normRefused s e i with
  | some c => endNow s e i 1 0x60 c
  | none =>
    endNow (storeMem s e 0 none (i.f1 35 0) (normBytes (jobIdOf s e).toNat (normReg s e (i.f3 63 32)))) e i 1 0x00 0

/-- The decision of 06 R167: DECISION, CLIP, status and the cause of a SKIP. -/
def decide_ (s : State) (e : EngineId) (step v : Nat) (gnorm : F32) (ks : List F32) : Nat × F32 × Nat × Nat :=
  let live := fun (x : F32) => x.isFinite && !x.isZero
  let maxN := ks.getD 30 0
  let skipN := ks.getD 31 0
  let mode := updReg s e step regStepMode
  if bit v 200 then (2, 0, 0x20, 0)
  else if bit v 201 then (2, 0, 0x21, 1)
  else if bit v 202 && 1 ≤ mode && mode ≤ 3 then (2, 0, 0x20, 2)
  else if live skipN && F32.lt skipN gnorm then (2, 0, 0x00, 3)
  else if live maxN && F32.lt maxN gnorm then (1, F32.div maxN gnorm, 0x00, 0)
  else (0, f32One, 0x00, 0)

/-- The audit slab of a step starts as zeros (11 R330). -/
def clearSlab (s : State) (e : EngineId) (step : Nat) : State :=
  if bit (reg s e regAuditMode) 0 && reg s e regAuditSteps != 0 then
    let at_ := (reg s e regAuditRingBase + 128 * (step % reg s e regAuditSteps)) * 4096
    noteMem (zeroHbm s e at_ (128 * 4096)) e 3 none true at_ (128 * 4096)
  else s

/-- DECIDE on a good record: constants, decision, step record. -/
def decideGood (s : State) (e : EngineId) (i : RawInstr) (step : Nat) (record : List Byte) : State :=
  let v := leNat record
  let gnorm := (Val.fin false (bits v 127 0) (normGrid (updReg s e step regNormAnchor))).sqrt.f32
  let ks := (List.range 32).map (fun c => curveAt (blobIn (updateBlobs s e step) regCurve.1 (regCurve.2 + c)) step)
  let (dec, clip, status, cause) := decide_ s e step v gnorm ks
  let bytes := leBytes step 4 ++ leBytes dec 4 ++ leBytes gnorm.toNat 4 ++ leBytes clip.toNat 4 ++ record
    ++ ks.flatMap (fun k => leBytes k.toNat 4) ++ zeros 80
  let s := storeMem s e 0 none (stepRecAt s e step) bytes
  let s := s.modJob e (fun j => { j with decided := AList.set j.decided step dec, lastDecision := put step 32 32 + put dec 2 0 })
  let s := clearSlab s e step
  let s := if dec == 1 then bump s e cntStepsClipped 1 else s
  if dec == 2 then
    let s := s.modHealth (fun h => { h with skipped := if h.skipped.contains step then h.skipped else (step :: h.skipped).take 1024 })
    let s := raiseOn (bump s e cntStepsSkipped 1) e i evStepSkipped 1 status (put step 32 0 + put cause 2 32)
    publish s e 0xf i 1 status 0 true
  else endNow s e i 1 status 0

/-- DECIDE reads the curve table first: an engine fault ends it with 0x50 where a word cannot be read (11 R324). -/
def decideStep (s : State) (e : EngineId) (i : RawInstr) (step : Nat) (record : List Byte) : State :=
  let (s, ok) := readTables s e ((List.range 32).map itemCurve)
  if ok then decideGood s e i step record else endNow s e i 1 0x50 0

/-- DECIDE reads the global record. -/
def beginNormDecide (s : State) (e : EngineId) (i : RawInstr) : State :=
  let a := i.f1 35 0
  let step := i.f3 63 32
  match normRefused s e i with
  | some c => endNow s e i 1 0x60 c
  | none =>
    if !readable s e a 32 then endNow s e i 1 0x40 0
    else
      let record := hbm s e a 32
      let s := noteMem s e 0 none false a 32
      if bits (leNat record) 255 224 != step || bits (leNat record) 223 208 != (jobIdOf s e).toNat then endNow s e i 1 0x60 0
      else decideStep s e i step record

/-- NORM PUBLISH (06 R164). -/
def execNormPublish (i : EngineInstr) (s : State) : Out := .next (route noUnits beginNormPublish (rowInstr 0x28 i 1 0) s)

/-- NORM DECIDE (06 R167). -/
def execNormDecide (i : EngineInstr) (s : State) : Out := .next (route noUnits beginNormDecide (rowInstr 0x28 i 1 1) s)

/-! ## SWEEP and APPLYPEND: dispatch -/

/-- The outcome of a step for an object: the seal table, or the ledger of its first gradient pane (06 R163, 07 R210). -/
def sealOutcome (s : State) (e : EngineId) (o : Obj) (step : Nat) : Nat :=
  match (s.eng e).job.seals.find? (fun x => x.object == o.slot && x.step == step) with
  | some x => x.outcome
  | none => match o.gradPanes.head?.bind (fun p => windowAt s e (p * 4096)) with
    | some (w, r) => if rowPresent s e w r && rowStep s e w r == step then 0 else 2
    | none => 2

/-- The seal table does not tell, and the object's first gradient pane, whose ledger would, is not installed here (07 R210, 09
R259). -/
def outcomeOpen (s : State) (e : EngineId) (o : Obj) (step : Nat) : Bool :=
  !(s.eng e).job.seals.any (fun x => x.object == o.slot && x.step == step)
  && (match o.gradPanes.head?.bind (fun p => windowAt s e (p * 4096)) with
      | some (w, r) => notInstalled s e w.number r
      | none => false)

/-- How an operation on the lanes stands to its object (08 R226, R236-R239). -/
inductive LaneMode where
  | unknown
  | wait
  | full
  | bay
  | defer (p : Nat)
  | done (status : Nat)
deriving DecidableEq, Repr

def laneMode (s : State) (e : EngineId) (o : Obj) (step : Nat) (pend : Bool) : LaneMode :=
  let r := resEntry s e o.slot
  let empty := sealOutcome s e o step == 2
  let noParcel := (liveParcels s e o.slot).isEmpty
  if outcomeOpen s e o step || (r.valid && !objKnown s e o.slot) then .unknown
  else if !r.valid then (if pend || empty then .done 0x01 else .bay)
  else
    let st := resState s e o.slot
    if st == stUp || st == stDown then .wait
    else if st == stHot then (if (pend || empty) && noParcel then .done 0x01 else .bay)
    else if pend then .done 0x60
    else if empty then .done 0x01
    else
      let p := step % r.depth
      match poolWindow s e with
      | none => .done 0x60
      | some w => if isLive s e o.slot p && (parcelHead s e w r p).step != step then .full else .defer p

/-- A live parcel of a cold object is close to its deadline (08 R237). -/
def nearDeadline (s : State) (e : EngineId) (o : Obj) (step : Nat) : Bool :=
  let r := resEntry s e o.slot
  match poolWindow s e with
  | none => false
  | some w => resState s e o.slot == stCold && (liveParcels s e o.slot).any (fun p =>
      (parcelHead s e w r p).step + r.depth ≤ step + reg s e regPendWarnMargin)

/-- A program touches a field at or above FIELD_COUNT, or is not valid (06 R172). -/
def programBad (s : State) (e : EngineId) (step : Nat) (o : Obj) : Bool :=
  match programOf s e step o.program with
  | none => true
  | some p => (fieldsUsed p).any (fun f => o.fields.length ≤ f)

/-- What of 12 R350, 06 R172, R175 and 08 R234 refuses an element range of an object. An APPLYPEND asks for its program only where
it would run it, after the rows of 08 R239 (DEDUCED, notes/assumptions/35.md). -/
def rangeRefused (s : State) (e : EngineId) (o : Obj) (step first count : Nat) (pend : Bool) : Bool :=
  o.elements < first + count || (count != 0 && !o.atBoundary first)
  || !(first + count == o.elements || o.atBoundary (first + count))
  || (!pend && programBad s e step o) || !(o.panes first (first + count)).all (paneInClass s e 0)
  || ((resEntry s e o.slot).valid
      && (resEntry s e o.slot).parcel != 1 + o.gradPlanes.foldl (fun n p => n + p.2) 0)

def laneWork (s : State) (e : EngineId) (id : Nat) : Option SweepWork :=
  (findOp s e id).bind (fun o => match o.work with | .lanes w => some w | _ => none)

/-- What a SWEEP that has not started says of its object: that its ring is full and it waits, and that a parcel is close to its deadline,
each once (08 R237). -/
def laneNotice (s : State) (e : EngineId) (id : Nat) : State :=
  match findOp s e id, laneWork s e id with
  | some op, some w => match parseObj w.desc with
    | none => s
    | some o =>
      if w.pend || w.started || !(resEntry s e o.slot).valid || !objKnown s e o.slot then s
      else
        let full := laneMode s e o w.step false == .full
        let near := nearDeadline s e o w.step
        let args := put o.slot 12 0 + put w.step 32 32
        let s := if near && !w.warned then raiseOn s e op.ins evPendDeadlineNear 1 0 args else s
        let s := if full && !w.fullNoted then raiseOn s e op.ins evPendRingFull 1 0 args else s
        setWork s e id (.lanes { w with ringFull := full, fullNoted := w.fullNoted || full, warned := w.warned || near })
  | _, _ => s

/-- An operation in a lane queue can start. -/
def laneReady (s : State) (e : EngineId) (id : Nat) : Bool :=
  match laneWork s e id with
  | none => false
  | some w => !apertureStands s e && (w.started || w.parcel.isSome ||
      (match parseObj w.desc with
       | none => true
       | some o => match laneMode s e o w.step w.pend with
         | .wait => false
         | .full => false
         | _ => true))

/-- The queued operation that the lanes take: highest PRIORITY, lowest LAYER, oldest (06 R183). -/
def laneKey (s : State) (e : EngineId) (id : Nat) : Nat × Nat :=
  match findOp s e id, (laneWork s e id).bind (fun w => parseObj w.desc) with
  | some o, some x => (3 - o.ins.body.priority.toNat, x.layer)
  | _, _ => (0, 0)

def pickLane (s : State) (e : EngineId) (q : List Nat) : Option Nat :=
  (q.filter (laneReady s e)).foldl (fun best id => match best with
    | none => some id
    | some b =>
      let x := laneKey s e id
      let y := laneKey s e b
      if x.1 < y.1 || (x.1 == y.1 && x.2 < y.2) then some id else some b) none

/-- Lanes that run nothing take the next operation that can start; they never leave one that runs (06 R183). -/
def takeLane (s : State) (e : EngineId) (f : Nat) : State :=
  let fc := facetOf s e f
  if fc.laneActive.isSome || fc.inReset then s
  else match pickLane s e fc.laneQueue with
    | none => s
    | some id => modFacet s e f (fun x => { x with laneActive := some id })

/-- Put an operation on the lanes of its stream's facet (06 R176). -/
def launchLanes (s : State) (e : EngineId) (i : RawInstr) (u : Nat) (w : SweepWork) : State :=
  let f := streamFacet s e i.stream % 8
  let id := nextOp s e
  let s := (s.modSnap e (fun x => { x with workRun := true })).modReb e (fun r => { r with sweptSince := true })
  let s := launch s e i (some (e.val, f)) u (.lanes w)
  takeLane (laneNotice (modFacet s e f (fun x => { x with laneQueue := x.laneQueue ++ [id] })) e id) e f

/-- The part of dispatch that both opcodes share, once the descriptor is parsed. -/
def beginLanes (s : State) (e : EngineId) (i : RawInstr) (u : Nat) (o : Obj) (bs : List Byte) (step first count : Nat) (pend : Bool) :
    State :=
  if rangeRefused s e o step first count pend then endNow s e i u 0x60 5
  else if !stepReadable s e step then endNow s e i u 0x40 5
  else match stepBytes s e step with
    | none => endNow s e i u 0x60 5
    | some rb =>
      if o.elements == 0 || (parseStep rb).decision == 2 then endNow s e i u 0x01 6
      else if pend && !outcomeOpen s e o step && sealOutcome s e o step != 2 then endNow s e i u 0x60 5
      else match laneMode s e o step pend with
        | .done st => endNow s e i u st (if st == 0x01 then 6 else 5)
        | _ =>
          if pend && programBad s e step o then endNow s e i u 0x60 5
          else launchLanes s e i u
            { desc := bs, step := step, first := first, next := first, last := first + count, started := false, ready := [],
              pend := pend, parcel := none, ringFull := false, repaired := false, nonfinite := false, tail := false,
              fullNoted := false, warned := false }

/-- A SWEEP or APPLYPEND of a step has been dispatched, whatever becomes of it (10 R283). -/
def noteSweep (s : State) (e : EngineId) (step : Nat) : State := s.modSnap e (fun x => { x with topSweep := max x.topSweep step })

def sweepUnits (s : State) (e : EngineId) (i : RawInstr) : Nat :=
  match objAt s e (i.f1 15 0) with
  | some o => (o.panes (i.f2 61 32) (i.f2 61 32 + i.f2 29 0)).length
  | none => 1

def applyUnits (s : State) (e : EngineId) (i : RawInstr) : Nat :=
  match objAt s e (i.f1 15 0) with
  | some o => (o.panes 0 o.elements).length
  | none => 1

/-- SWEEP at dispatch (12 R350). -/
def beginSweep (s : State) (e : EngineId) (i : RawInstr) : State :=
  let d := i.f1 15 0
  let first := i.f2 61 32
  let count := i.f2 29 0
  let s := noteSweep s e (i.f3 63 32)
  if i.f1 63 16 != 0 || i.f2 63 62 != 0 || i.f2 31 30 != 0 || i.f3 31 0 != 0 || first % 256 != 0 || count % 256 != 0
      || reg s e regDescCount < d + 2 then endNow s e i (sweepUnits s e i) 0x60 4
  else if count == 0 then endNow s e i 1 0x01 6
  else if !descReadable s e d 2 then endNow s e i 1 0x40 5
  else match objAt s e d, descEntries s e d 2 with
    | some o, some bs => beginLanes s e i (sweepUnits s e i) o bs (i.f3 63 32) first count false
    | _, _ => endNow s e i 1 0x60 5

/-- APPLYPEND at dispatch: the whole object (08 R239). -/
def beginApplypend (s : State) (e : EngineId) (i : RawInstr) : State :=
  let d := i.f1 15 0
  let s := noteSweep s e (i.f3 63 32)
  if i.f1 63 16 != 0 || i.body.w2 != 0 || i.f3 31 0 != 0 || reg s e regDescCount < d + 2 then endNow s e i (applyUnits s e i) 0x60 4
  else if !descReadable s e d 2 then endNow s e i 1 0x40 5
  else match objAt s e d, descEntries s e d 2 with
    | some o, some bs => beginLanes s e i (applyUnits s e i) o bs (i.f3 63 32) 0 o.elements true
    | _, _ => endNow s e i 1 0x60 5

/-- SWEEP updates the state of an object's element range (12 R350). -/
def execSweep (i : EngineInstr) (s : State) : Out := .next (route sweepUnits beginSweep (rowInstr 0x30 i 0 0) s)

/-- APPLYPEND applies an object's live parcels (08 R239). -/
def execApplypend (i : EngineInstr) (s : State) : Out := .next (route applyUnits beginApplypend (rowInstr 0x3a i 0 0) s)

/-! ## The lanes at work -/

/-- The lanes of a facet take up the next operation; one that has ended otherwise is forgotten. -/
def startLanes (s : State) (e : EngineId) (f : Nat) : State :=
  let live := fun (id : Nat) => (laneWork s e id).isSome
  takeLane (modFacet s e f (fun x => { x with
    laneQueue := x.laneQueue.filter live, laneActive := x.laneActive.filter live })) e f

/-- The lanes are done with an operation, or it goes back to wait. -/
def leaveLanes (s : State) (e : EngineId) (id : Nat) (keep : Bool) : State :=
  match (findOp s e id).bind (·.facet) with
  | none => s
  | some (_, f) => modFacet s e f (fun x => { x with
      laneQueue := if keep then x.laneQueue else x.laneQueue.filter (· != id),
      laneActive := if x.laneActive == some id then none else x.laneActive })

/-- End a lane operation. -/
def endLanes (s : State) (e : EngineId) (id status : Nat) : State := leaveLanes (endWork s e id status) e id false

/-- Pane slots in use (06 R178). -/
def slotsUsed (s : State) (e : EngineId) : Nat := ((s.eng e).fab.jobs.filter (·.slot)).length

/-- A pane that a computation of a step reads or writes can be used now: installed or decoded, no erasure, nothing on its way to it.
What is missing is started: while the step is being swept, a spare's row is reconciled (07 R213). -/
def usable (s : State) (e : EngineId) (id step : Nat) (w : Window) (row : Nat) : State × ReadState :=
  if paneLost s e w.number row then (s, .lost)
  else if paneWaits s e w.number row then (if rowFrozen s e w.number row then bumpCycles s e cntFreezeHoldCycles 0 else s, .wait)
  else if (reconAt s e w.number row).any Recon.standing then (s, .good)
  else if (reconAt s e w.number row).isSome || installing s e w.number row then (s, .wait)
  else if notInstalled s e w.number row then
    (if sweepHolds s e && (s.eng e).job.committed < step then
      newInstall s e (.reconcile id step) w.number row (columnHere s e row) 0 true
     else demandInstall s e w.number row, .wait)
  else
    let r := checkRow s e w row
    (r.1, if r.2 then .good else .wait)

def rowsUsable (s : State) (e : EngineId) (id step : Nat) (ps : List (Window × Nat)) : State × ReadState :=
  ps.foldl (fun t p => let r := usable t.1 e id step p.1 p.2
                       (r.1, t.2.both r.2)) (s, .good)

def allUsable (s : State) (e : EngineId) (id step : Nat) (ps : List Nat) : State × ReadState :=
  rowsUsable s e id step (ps.filterMap (fun p => windowAt s e (p * 4096)))

/-- A lane operation whose panes are looked up: it goes on, waits, or ends with 0x10 where a row is beyond decoding (09 R266). -/
def withPanes (s : State) (e : EngineId) (id : Nat) (r : ReadState) (f : State → State) : State :=
  match r with
  | .good => f s
  | .lost => endLanes s e id 0x10
  | _ => s

/-- The panes of a parcel in the stack: header, then gradient. -/
def parcelRows (s : State) (e : EngineId) (o p : Nat) : List Nat :=
  let r := resEntry s e o
  (List.range r.parcel).map (parcelRow s e r p)

/-- 08 R240: the parcel agrees with its digest, and its step record with its STEP and JOB_ID. -/
def parcelSound (s : State) (e : EngineId) (w : Window) (o p : Nat) : Bool :=
  let r := resEntry s e o
  let h := parcelHead s e w r p
  let body := ((List.range (r.parcel - 1)).flatMap (fun i => rowNow s e w (parcelRow s e r p (i + 1))))
  let rec_ := parseStep h.record
  (blake3 body).take 16 == h.digest && rec_.step == h.step && rec_.jobId == h.jobId

/-- Check the live parcels before the first unit; what fails has its rows checked once, and a second failure is fatal (11 R317).
Whether the update may go on. -/
def checkParcels (s : State) (e : EngineId) (id : Nat) (w : SweepWork) (o : Obj) : State × Bool :=
  match poolWindow s e with
  | none => (s, true)
  | some pw =>
    if (s.eng e).reb.installs.any (fun n => match n.purpose with | .rowCheck x _ _ => x == some id | _ => false) then (s, false)
    else
      let bad := (liveParcels s e o.slot).filter (fun p => !parcelSound s e pw o.slot p)
      if bad.isEmpty then (s, true)
      else if w.repaired then
        let s := raiseOp (modOp s e id (fun x => { x with raised := true })) e id evParcelCorrupt 3 0x40 (put o.slot 12 0 + put w.step 32 32)
        (endLanes s e id 0x40, false)
      else
        let s := setWork s e id (.lanes { w with repaired := true })
        (bad.foldl (fun s p => (parcelRows s e o.slot p).foldl (fun s r =>
          newInstall s e (.rowCheck (some id) none false) pw.number r (columnHere s e r) 0 true) (digestMismatch s e)) s, false)

/-- The panes of the sweep blocks of an operation in which one pane is stamped and another is not: no reset stops it before all of them
are (07 R435). -/
def halfPanes (s : State) (e : EngineId) (op : Op) : List Nat :=
  match op.work with
  | .lanes w => match parseObj w.desc with
    | none => []
    | some o =>
      if !w.started || w.parcel.isSome then []
      else (blocksOf o (w.next / 256 + 1) w.first w.next).flatMap (fun b =>
        let ps := o.panes b.1 b.2
        if ps.any (stampedAt s e w.step) && !ps.all (stampedAt s e w.step) then ps else [])
  | _ => []

/-- Panes that are not yet stamped at the step, out of those computed; the others count as stamped (07 R191, step 1). -/
def splitStamped (s : State) (e : EngineId) (id step : Nat) (unit : Bool) (ps : List PaneOut) : State × List PaneOut :=
  ps.foldl (fun t p => match windowRec t.1 e p.window with
    | none => t
    | some w =>
      if rowPresent t.1 e w p.row && step ≤ rowStep t.1 e w p.row then (if unit then unitDone t.1 e id else t.1, t.2)
      else (t.1, t.2 ++ [p])) (s, [])

/-- The residue checks of a block's units on the facet that runs them: each mismatch has its unit recomputed, feeds the bucket, is
counted and sets ALERT in the partial of the step after the sweep's; a second one in a unit is a facet fault (06 R166, R176). How many a
unit meets is a free value. -/
def laneResidue (s : State) (e : EngineId) (id step units : Nat) : State :=
  (List.range units).foldl (fun s _ =>
    let k := min 2 (Config.residueMismatches s.freeCount)
    let s := if k == 0 then s else setNorm s e { normReg s e (step + 1) with alert := true }
    let s := (List.range k).foldl (fun s _ => ceUnit (bump s e cntLaneResidueErrors 1) e) (useFree s 1)
    if k == 2 then (((List.range 8).filter (fun f => (facetOf s e f).laneActive == some id)).foldl (fun s f => facetFault s e f) s)
    else s) s

/-- The panes of a sweep block, with what becomes of their contents. -/
def blockOuts (s : State) (e : EngineId) (panes : List Nat) (f : Nat → List Byte) : List PaneOut :=
  panes.filterMap (fun p => (windowAt s e (p * 4096)).map (fun q => { window := q.1.number, row := q.2, content := f p }))

/-- Every pane of a block is already stamped at the step (07 R191, R436). -/
def blockApplied (s : State) (e : EngineId) (step : Nat) (ps : List PaneOut) : Bool :=
  ps.all (fun p => match windowRec s e p.window with
    | some w => rowPresent s e w p.row && step ≤ rowStep s e w p.row
    | none => true)

/-- The stack's bytes of a live parcel that hold the gradient of elements `x` to `y - 1`, pane by pane (08 R236). -/
def parcelRuns (s : State) (e : EngineId) (o : Obj) (pw : Window) (p x y : Nat) : List (Nat × Nat) :=
  let n := ((o.gradPlanes.head?).map (·.2)).getD 0
  let planes := if o.gradFormat == 0 then [(1, 4 * x, 4 * y)] else [(1, 2 * x, 2 * y), (1 + n, x / 64, y / 64)]
  planes.flatMap (fun q => (List.range ((q.2.2 + 4095) / 4096 - q.2.1 / 4096)).map (fun i =>
    let k := q.2.1 / 4096 + i
    let a := max q.2.1 (4096 * k)
    (pw.paneAt (parcelRow s e (resEntry s e o.slot) p (q.1 + k)) + a % 4096, min q.2.2 (4096 * k + 4096) - a)))

/-- The lanes read panes of coded windows, the absent ones and those decoded but not yet in the stack left out (01 R17, 03 R101). -/
def readPanes (s : State) (e : EngineId) (id : Nat) (ps : List Nat) : State :=
  (ps.filter (fun p => match windowAt s e (p * 4096) with
    | some (w, r) => rowPresent s e w r && (reconAt s e w.number r).isNone
    | none => false)).foldl (fun s p => noteMem s e 0 (some id) false (p * 4096) 4096) s

/-- What the lanes read for a sweep block: its state panes, its own gradient, and the gradients of the live parcels. -/
def readBlock (s : State) (e : EngineId) (id : Nat) (w : SweepWork) (o : Obj) (x y : Nat) : State :=
  let own := if w.pend || sealOutcome s e o w.step == 2 then [] else panesOf (o.gradRanges x y)
  let runs := match poolWindow s e with
    | some pw => (liveParcels s e o.slot).flatMap (fun p => parcelRuns s e o pw p x y)
    | none => []
  runs.foldl (fun s r => noteMem s e 0 (some id) false r.1 r.2) (readPanes s e id (o.panes x y ++ own))

/-- Compute the sweep block from `x` to `y`: its new panes, and what it counts (06 R171, R189). A block whose panes are all stamped
is not computed again: they count as stamped (07 R191), and DIGEST audit reads them (11 R330). -/
def computeBlock (s : State) (e : EngineId) (id : Nat) (w : SweepWork) (o : Obj) (x y : Nat) : State × SweepWork :=
  let panes := o.panes x y
  let old := blockOuts s e panes (fun _ => [])
  if blockApplied s e w.step old then
    let s := if bit (reg s e regAuditMode) 0 then readPanes s e id panes else s
    ((splitStamped s e id w.step true old).1, { w with ready := [], next := y })
  else
    let prog := (programOf s e w.step o.program).getD []
    let seed := match (s.eng e).job.job with
      | some j => j.seed.toNat
      | none => 0
    let ps := match poolWindow s e with
      | some pw => (liveParcels s e o.slot).map (gradParcel s e o pw)
      | none => []
    let own := if w.pend || sealOutcome s e o w.step == 2 then []
               else [gradOwn s e o (parseStep ((stepBytes s e w.step).getD [])) x y]
    let u := updateRange seed o prog (ps ++ own) ((y - x) / 256) x { img := imgOf s e panes, bad := 0, sats := 0 }
    let outs := blockOuts s e panes (fun p => slice (AList.getD u.img p []) 0 4096)
    let s := readBlock s e id w o x y
    let s := laneResidue s e id w.step ((y - x) / 256)
    let s := bump s e cntSweepParams (y - x)
    let s := bump s e cntSweepNonfinite u.bad
    let s := bump s e cntSaturations u.sats
    let (s, ready) := splitStamped s e id w.step true outs
    (s, { w with ready := ready, next := y, nonfinite := w.nonfinite || u.bad != 0 })

/-- The panes of the live parcels of an object. -/
def poolPanes (s : State) (e : EngineId) (o : Obj) : List Nat :=
  match poolWindow s e with
  | some pw => if (resEntry s e o.slot).valid then
      (liveParcels s e o.slot).flatMap (fun p => (parcelRows s e o.slot p).map (· + pw.base)) else []
  | none => []

/-- The panes a block needs: state, gradient, and the parcels of its object. -/
def blockPanes (s : State) (e : EngineId) (w : SweepWork) (o : Obj) (x y : Nat) : List Nat :=
  let own := if w.pend || sealOutcome s e o w.step == 2 then [] else panesOf (o.gradRanges x y)
  o.panes x y ++ own ++ poolPanes s e o

/-- The gradient panes of a deferred object as parcel panes, those already stamped left out (08 R236). -/
def deferPanes (s : State) (e : EngineId) (id : Nat) (w : SweepWork) (o : Obj) (p : Nat) : State × List PaneOut :=
  let r := resEntry s e o.slot
  let pw := ((poolWindow s e).map (·.number)).getD 0
  let src := o.gradPlanes.flatMap (fun q => (List.range q.2).map (fun i => q.1 / 4096 + i))
  splitStamped s e id w.step false (src.zipIdx.map (fun q =>
    { window := pw, row := parcelRow s e r p (q.2 + 1), content := paneContent s e q.1 }))

/-- The header pane of a deferred object's parcel. -/
def deferHead (s : State) (e : EngineId) (w : SweepWork) (o : Obj) (p : Nat) : List Byte :=
  let r := resEntry s e o.slot
  let body := match poolWindow s e with
    | none => []
    | some pw => (List.range (r.parcel - 1)).flatMap (fun i => rowNow s e pw (parcelRow s e r p (i + 1)))
  headPane { step := w.step, jobId := (jobIdOf s e).toNat, object := o.slot, format := o.gradFormat, elems := o.elements,
             digest := (blake3 body).take 16, record := (stepBytes s e w.step).getD [] }

/-! ### The end of a lane operation -/

/-- Every pane of an object is stamped at a step. -/
def objStamped (s : State) (e : EngineId) (o : Obj) (step : Nat) : Bool :=
  (o.panes 0 o.elements).all (stampedAt s e step)

/-- DIGEST audit is on (11 R329). -/
def auditOn (s : State) (e : EngineId) : Bool := bit (reg s e regAuditMode) 0 && reg s e regAuditSteps != 0

/-- Where the audit record of an object in a step lies. -/
def auditAt (s : State) (e : EngineId) (step slot : Nat) : Nat :=
  (reg s e regAuditRingBase + 128 * (step % reg s e regAuditSteps)) * 4096 + 128 * slot

/-- The 128-byte audit record of an operation joins its slab (11 R330; that PARTS counts the first one too: notes/assumptions/62.md,
DEDUCED). -/
def auditRecord (s : State) (e : EngineId) (w : SweepWork) (o : Obj) : State :=
  if auditOn s e then
    let at_ := auditAt s e w.step o.slot
    let old := hbmNat s e at_ 128
    let s := noteMem s e 3 none false at_ 128
    let outcome := sealOutcome s e o w.step
    let pool := match poolWindow s e with
      | some pw => (liveParcels s e o.slot).flatMap (fun p => ((parcelRows s e o.slot p).drop 1).map (fun r => paneDigest (rowBytes s e pw r)))
      | none => []
    let own := if w.pend || outcome == 2 then [] else
      (panesOf (o.gradRanges w.first w.last)).map (fun p => paneDigest (paneContent s e p))
    let out := match w.parcel, poolWindow s e with
      | some p, some pw => (parcelRows s e o.slot p).map (fun r => paneDigest (rowBytes s e pw r))
      | _, _ => (o.panes w.first w.last).map (fun p => paneDigest (paneContent s e p))
    let s := bump s e cntPaneDigests ((if w.parcel.isSome then 0 else pool.length) + own.length + out.length)
    let ind := if outcome == 2 && pool.isEmpty then 0 else leNat (treeRoot ((if w.parcel.isSome then [] else pool) ++ own))
    let std := leNat (treeRoot out)
    let again := bits old 1023 992 == w.step && bits old 976 969 != 0
    let word := if again then
        (old / 2 ^ 976) * 2 ^ 976 + put (bits old 976 969 + 1) 8 969 + (old % 2 ^ 768 ^^^ (put ind 256 256 + put std 256 0))
      else put w.step 32 992 + put o.slot 12 980 + put outcome 2 978 + put (b2n w.parcel.isSome) 1 977 + put 1 8 969
           + put (leNat (updateDigest s e)) 256 512 + put ind 256 256 + put std 256 0
    storeMem s e 3 none at_ (leBytes word 128)
  else s

/-- The lanes have done with an operation: its audit record, and its end; a record that cannot be read ends it with 0x40 (11 R321). -/
def auditEnd (s : State) (e : EngineId) (id : Nat) (w : SweepWork) (o : Obj) (status : Nat) : State :=
  if auditOn s e && !readable s e (auditAt s e w.step o.slot) 128 then endLanes s e id 0x40
  else endLanes (auditRecord s e w o) e id status

/-- What is left once the lanes have no pane: the header of a parcel, or the residency word; then the operation's work ends
(08 R236, R238). -/
def settleLanes (s : State) (e : EngineId) (id : Nat) : State :=
  match laneWork s e id with
  | none => s
  | some w => match parseObj w.desc with
    | none => s
    | some o =>
      if (s.eng e).fab.jobs.any (fun j => j.owner == .op id) || !w.ready.isEmpty then s
      else match w.parcel with
        | some p =>
          let row := parcelRow s e (resEntry s e o.slot) p 0
          match poolWindow s e with
          | none => endLanes s e id 0x60
          | some pw =>
            if rowPresent s e pw row && rowStep s e pw row == w.step then
              let s := if w.tail then bump s e cntParcelsWritten 1 else s
              auditEnd s e id w o 0x00
            else if w.tail || paneWaits s e pw.number row || reg s e regSweepPaneSlots ≤ slotsUsed s e then s
            else
              let s := setWork s e id (.lanes { w with tail := true })
              startPane (cacheItem s e (itemMask o.slot)) e (.op id) kindDelta w.step (.sweep w.step) true false pw row allGranules
                (deferHead s e w o p)
        | none =>
          if !w.started || w.next < w.last then s
          else
            let fin := fun (s : State) => auditEnd s e id w o (if w.nonfinite then 0x20 else 0x00)
            if w.tail || !(resEntry s e o.slot).valid || !objStamped s e o w.step || w.step ≤ resApplied s e o.slot then fin s
            else if !dirReady s e o.slot then s
            else
              let s := bump s e cntParcelsApplied (liveParcels s e o.slot).length
              let s := setWork s e id (.lanes { w with tail := true })
              writeResWord s e (.op id) o.slot w.step stHot

/-! ### LANE_PANE_COMPLETE -/

/-- Hand the next finished pane of an operation to the update path, if a slot is free and the pane need not wait (06 R178). -/
def laneEmit (s : State) (e : EngineId) (id : Nat) (w : SweepWork) : State :=
  match w.ready with
  | [] => settleLanes s e id
  | p :: rest =>
    if reg s e regSweepPaneSlots ≤ slotsUsed s e then bumpCycles s e cntSweepSlotStalls 0
    else if credit s e 0 == 0 then bumpCycles s e cntSweepCreditStalls 0
    else if paneWaits s e p.window p.row then (if rowFrozen s e p.window p.row then bumpCycles s e cntFreezeHoldCycles 0 else s)
    else match windowRec s e p.window with
      | none => setWork s e id (.lanes { w with ready := rest })
      | some win =>
        let s := setWork s e id (.lanes { w with ready := rest })
        let stamp := if (reconAt s e win.number p.row).isSome then .recovered w.step else .sweep w.step
        let s := startPane s e (.op id) kindDelta w.step stamp true w.parcel.isNone win p.row allGranules p.content
        if rest.isEmpty then settleLanes s e id else s

/-- Read the seal table's entry of an object: one that cannot be read is discarded (11 R324). -/
def readSeal (s : State) (e : EngineId) (object step : Nat) : State :=
  let (s, ok) := sramRead s e sramLedger (itemSeal object step)
  if ok then s
  else s.modJob e (fun j => { j with seals := j.seals.filter (fun x => !(x.object == object && x.step % 2 == step % 2)) })

/-- Begin an operation that the lanes have taken up: defer, update, wait or end. -/
def laneBegin (s : State) (e : EngineId) (id : Nat) (w : SweepWork) (o : Obj) : State :=
  if w.pend && !outcomeOpen s e o w.step && sealOutcome s e o w.step != 2 then endLanes s e id 0x60
  else match laneMode s e o w.step w.pend with
  | .unknown =>
    let (s, r) := allUsable s e id w.step (o.gradPanes.take 1)
    let (s, r') := if (resEntry s e o.slot).valid then rowsUsable s e id w.step (statePanes s e o.slot) else (s, .good)
    withPanes s e id (r.both r') (fun s => s)
  | .done st => endLanes s e id st
  | .wait => leaveLanes s e id true
  | .full => leaveLanes s e id true
  | .defer p =>
    let r := resEntry s e o.slot
    let pw := ((poolWindow s e).map (·.base)).getD 0
    let (s, ok) := allUsable s e id w.step (o.gradPanes ++ (List.range r.parcel).map (fun i => parcelRow s e r p i + pw))
    withPanes s e id ok (fun s =>
      let (s, ready) := deferPanes (readPanes s e id o.gradPanes) e id w o p
      let w := { w with parcel := some p, ready := ready, started := true }
      laneEmit (setWork s e id (.lanes w)) e id w)
  | .bay =>
    let (s, ok) := allUsable s e id w.step (poolPanes s e o)
    withPanes s e id ok (fun s =>
      let (s, ok) := checkParcels s e id w o
      if ok then setWork s e id (.lanes { w with started := true }) else s)

/-- One pane of the operation on a facet's lanes completes. -/
def laneStep (s : State) (e : EngineId) (id : Nat) : State :=
  match laneWork s e id with
  | none => s
  | some w => match parseObj w.desc with
    | none => endLanes s e id 0x60
    | some o =>
      let s := if w.started then s else laneBegin (readSeal s e o.slot w.step) e id w o
      match laneWork s e id with
      | none => s
      | some w =>
        if !w.started || w.parcel.isSome && w.ready.isEmpty then settleLanes s e id
        else if w.ready.isEmpty && w.next < w.last then
          let y := min w.last (blockEnd o 512 w.next)
          let (s, ok) := allUsable s e id w.step (blockPanes s e w o w.next y)
          let (s, table) := readTables s e [itemProgram o.program]
          if !table then s
          else withPanes s e id ok (fun s =>
            let (s, w) := computeBlock s e id w o w.next y
            laneEmit (setWork s e id (.lanes w)) e id w)
        else laneEmit s e id w

/-- The SWEEPs that wait for a ring on a facet's lanes count its cycles (08 R244). -/
def countRingWait (s : State) (e : EngineId) (f : Nat) : State :=
  (facetOf s e f).laneQueue.foldl (fun s id =>
    if (laneWork s e id).any (·.ringFull) then bumpCycles s e cntPendRingWaitCycles 0 else s) s

/-- The lanes of a facet finish a pane (06 R178, 07 R191). -/
def lanePane (s : State) (e : EngineId) (f : Nat) : State :=
  let s := (facetOf s e f).laneQueue.foldl (fun s id => laneNotice s e id) s
  let s := startLanes (countRingWait s e f) e f
  match (facetOf s e f).laneActive with
  | none => s
  | some id => if apertureStands s e then s else startLanes (laneStep s e id) e f

end Sys2Proof.Machine
end

