-- ==== Sys2Proof/Machine/StackPort.lean ====
section
/-!
DEFINITION. The stack controller's side: responses to memory requests (01 R19, 11 R320, R321), the address filter with its
coded-write path, presence lookups and private entry (01 R21-R26, 05 R141), and the taps (11 R309).
-/

namespace Sys2Proof.Machine

open Sys2Proof

/-! ## Erasures by region (11 R320, R321, 05 R154) -/

/-- The rows of a region of words or bits that a granule covers. -/
def rowsUnder (region : Nat × Nat) (g per : Nat) : List Nat :=
  (List.range per).map (fun i => (64 * g - region.1) / 64 * per + i)

/-- A granule lies in a region. -/
def granuleIn (region : Nat × Nat) (g : Nat) : Bool := region.1 ≤ 64 * g && 64 * g < region.1 + region.2

/-- The rows of a presence granule are installed and its bytes written anew from the map. -/
def presenceErasure (s : State) (e : EngineId) (w : Window) (g : Nat) : State :=
  let rows := (rowsUnder (w.presence * 4096, 0) g 512).filter (· < w.length)
  if w.isHot then
    let s := openErasure s e w rows g
    setHbm s e (64 * g) ((List.range 64).map (fun i => BitVec.ofNat 8 ((List.range 8).foldl (fun n b =>
      n + (if rowPresent s e w ((64 * g - w.presence * 4096 + i) * 8 + b) then 2 ^ b else 0)) 0)))
  else (rows.filter (rowPresent s e w)).foldl (fun s r => addRepair s e w.number r (columnHere s e r)) s

/-- The words of a mask granule: parity panes are installed, words of data rows become zero. -/
def maskErasure (s : State) (e : EngineId) (w : Window) (g : Nat) : State :=
  let rows := (rowsUnder (w.mask * 4096, 0) g 8).filter (· < w.length)
  let s := zeroHbm s e (64 * g) 64
  let parity := rows.filter (holdsParity s e)
  if w.isHot then openErasure s e w parity g
  else (parity.filter (rowPresent s e w)).foldl (fun s r => addRepair s e w.number r (columnHere s e r)) s

/-- What an unreadable granule calls for: an install, a region's own rule, or the end of the operation that read it. -/
def erasureAt (s : State) (e : EngineId) (g : Nat) (op : Option Nat) : State :=
  match windowAt s e (64 * g) with
  | some (w, r) => openErasure s e w [r] g
  | none =>
    let ws := myWindows s e
    match ws.find? (fun w => w.isHot && granuleIn (w.ledger * 4096, 8 * w.length) g) with
    | some w => openErasure s e w (rowsUnder (w.ledger * 4096, 0) g 8) g
    | none => match ws.find? (fun w => granuleIn (w.presence * 4096, (w.length + 7) / 8) g) with
      | some w => presenceErasure s e w g
      | none => match ws.find? (fun w => granuleIn (w.mask * 4096, 8 * w.length) g) with
        | some w => maskErasure s e w g
        | none =>
          if touchesAcc s e (64 * g) 64 then damageRange s e (64 * g, 64)
          else match op with
            | some o => endPass s e o 0x40
            | none => s

def setHealth (s : State) (e : EngineId) (g : Nat) (h : Option Health) : State :=
  s.modMem e (fun m => { m with health := match h with
    | some x => AList.set m.health g x
    | none => AList.erase m.health g })

/-- A write of this member's own pane that the port cannot complete: the stamp has failed, an engine fault (07 R193). -/
def stampFails (s : State) (e : EngineId) (g : Nat) : State :=
  match windowAt s e (64 * g) with
  | some (_, row) => if holdsData s e row then engineFault s e causeStamp else s
  | none => s

/-- What an unreadable granule does to groups beside their own words: one whose anchor byte it holds, or whose ACCUM read it, becomes
DAMAGED, and that ACCUM ends with 0x40 (05 R144, R150). -/
def damageReads (s : State) (e : EngineId) (g : Nat) (op : Option Nat) : State :=
  let s := ((s.eng e).job.slots.filter (fun p => p.2.state == .opened && p.2.anchorTab
      && overlap (p.2.anchorBase, p.2.elements / 256) (64 * g, 64))).foldl (fun s p => damageSlot s e p.1) s
  match op.bind (findOp s e) with
  | some o =>
    if o.ins.op != 0x21 then s
    else
      let s := addCause s e o.id 0x40
      if (accSlot s e (o.ins.f3 5 0)).state == .free then s else damageSlot s e (o.ins.f3 5 0)
  | none => s

/-- A read has found a granule unreadable. -/
def badRead (s : State) (e : EngineId) (r : MemReq) (h : Health) : State :=
  erasureAt (damageReads (setHealth s e r.granule (some h)) e r.granule r.owner) e r.granule r.owner

/-- The controller answers a request (01 R18, R19). -/
def memResponse (s : State) (e : EngineId) (r : MemReq) (status : Nat) (poisoned : Bool) : State :=
  let s := s.modMem e (fun m => { m with memReqs := m.memReqs.erase r })
  if status == 3 then
    match r.owner with
    | some o => endPass s e o 0x40
    | none =>
      let s := raise s e evOpStatus 2 0
      if r.isWrite then stampFails s e r.granule else s
  else if r.isWrite then s
  else if status == 2 then badRead s e r .uncorrectable
  else if poisoned then badRead s e r .poisoned
  else if status == 1 then ceUnit (setHealth s e r.granule (some .corrected)) e
  else setHealth s e r.granule none

/-! ## Writes and reads of agents -/

/-- Merge a granule under BYTE_EN. -/
def mergeBytes (old new : List Byte) (byteEn : BitVec 64) : List Byte :=
  (List.range 64).map (fun i => if byteEn.getLsbD i then new.getD i 0 else old.getD i 0)

/-- A write that the controller performs itself (01 R18). -/
def plainWrite (s : State) (e : EngineId) (g : Nat) (byteEn : BitVec 64) (data : List Byte) : State :=
  if byteEn == BitVec.allOnes 64 then setHbm s e (64 * g) (slice data 0 64)
  else s.modMem e (fun m => { m with
    hbm := m.hbm.write (64 * g) (mergeBytes (m.hbm.read (64 * g) 64) data byteEn)
    health := match AList.get? m.health g with
      | some .uncorrectable => AList.set m.health g .poisoned
      | some .poisoned => m.health
      | _ => AList.erase m.health g })

/-- Merge granules, each under its own BYTE_EN. -/
def mergeRun : List (BitVec 64) → List Byte → List Byte → List Byte
  | [], _, _ => []
  | b :: bs, old, new => mergeBytes (slice old 0 64) (slice new 0 64) b ++ mergeRun bs (old.drop 64) (new.drop 64)

/-- Granules that the controller writes itself, one after another. -/
def plainRun : List (BitVec 64) → State → EngineId → Nat → List Byte → State
  | [], s, _, _, _ => s
  | b :: bs, s, e, g, d => plainRun bs (plainWrite s e g b d) e (g + 1) (d.drop 64)

def agentDone (s : State) (e : EngineId) (g : Nat) (write : Bool) (status : Nat) (data : List Byte) : State :=
  s.modMem e (fun m => { m with agentOut := m.agentOut ++ [{ granule := g, write := write, status := status, data := data }] })

/-- The private filter entry of the accumulation region covers a granule (05 R141). -/
def isPrivate (s : State) (e : EngineId) (g : Nat) : Bool :=
  (s.eng e).mem.privateOn && touchesAcc s e (64 * g) 64

/-- It covers one of a run of granules. -/
def runPrivate (s : State) (e : EngineId) (g n : Nat) : Bool := (List.range n).any (fun i => isPrivate s e (g + i))

/-- A refused write: not performed, completed with 0x60, with a record (01 R24, 05 R141). -/
def refuseWrite (s : State) (e : EngineId) (g : Nat) : State :=
  agentDone (raise s e evCodedWriteRefused 2 (g % 2 ^ 36)) e g true 0x60 []

/-- Steer a coded write to the coded-write path, where the filter holds it until the path accepts it (01 R22, R23). -/
def steerWrite (s : State) (e : EngineId) (g : Nat) (byteEn : List (BitVec 64)) (data : List Byte) (w row : Nat) : State :=
  let id := (s.eng e).iss.nextId
  let s := (sramWrite s e sramStaging id).modIss e (fun q => { q with nextId := q.nextId + 1 })
  s.modMem e (fun m => { m with writes := m.writes ++ [{ id := id, granule := g, byteEn := byteEn, data := data,
                                                         window := w, row := row, job := none, status := 0, accepted := false }] })

/-- The granule writes that the coded-write path holds. -/
def pathLoad (ws : List CodedWrite) : Nat := (ws.filter (·.accepted)).foldl (fun n x => n + x.byteEn.length) 0

/-- The path accepts the writes held at the filter in their order, as long as it holds at most 256 granule writes (01 R23). -/
def acceptInto : Nat → List CodedWrite → List CodedWrite
  | _, [] => []
  | load, x :: xs =>
    if x.accepted then x :: acceptInto load xs
    else if load + x.byteEn.length ≤ 256 then { x with accepted := true } :: acceptInto (load + x.byteEn.length) xs
    else x :: xs

/-- A lane operation holds a finished pane of the row that is not yet on its way (06 R179). -/
def laneHolds (s : State) (e : EngineId) (window row : Nat) : Bool :=
  (s.eng e).iss.ops.any (fun o => match o.work with
    | .lanes w => w.ready.any (fun p => p.window == window && p.row == row)
    | _ => false)

/-- The path of a present engine accepts writes, but for an aperture and a reset (01 R23, R59, 10 R282, R285). -/
def acceptWrites (s : State) (e : EngineId) : State :=
  if apertureHolds s e || (s.eng e).bring.rst.isSome || (s.eng e).job.ending == .due || !present s e then s
  else s.modMem e (fun m => { m with writes := acceptInto (pathLoad m.writes) m.writes })

/-- Complete a write of the path to its agent. -/
def completeWrite (s : State) (e : EngineId) (x : CodedWrite) (status : Nat) : State :=
  agentDone (s.modMem e (fun m => { m with writes := m.writes.filter (·.id != x.id) })) e x.granule true status []

/-- Coded writes of the path start in order, one of a pane at a time (01 R22, R23). -/
def startWrite (s : State) (e : EngineId) (x : CodedWrite) : State :=
  let earlier := ((s.eng e).mem.writes.takeWhile (·.id != x.id)).any (fun y => y.window == x.window && y.row == x.row)
  if !x.accepted || x.job.isSome || earlier then s
  else match windowRec s e x.window with
    | none => s
    | some w =>
      if paneWaits s e x.window x.row then (if rowFrozen s e x.window x.row then bumpCycles s e cntFreezeHoldCycles 0 else s)
      else if laneHolds s e x.window x.row then s
      else match paneUsable s e w x.row with
        | (s, .good) =>
          let (s, sound) := sramRead s e sramStaging x.id
          if !sound then completeWrite s e x 0x40
          else
          let s := s.modMem e (fun m => { m with
            writes := m.writes.map (fun y => if y.id == x.id then { y with job := some (s.eng e).iss.nextId } else y) })
          let g := x.granule % 64
          let old := rowBytes s e w x.row
          let content := patch old (64 * g) (mergeRun x.byteEn (slice old (64 * g) (64 * x.byteEn.length)) x.data)
          startPane s e (.write x.id) kindDelta 0 .coded false false w x.row ((List.range x.byteEn.length).map (g + ·)) content
        | (s, .wait) => s
        | (s, .bad) => completeWrite s e x 0x40
        | (s, .lost) => completeWrite s e x 0x10

/-- A write whose pane is stamped completes to its agent (01 R22). -/
def endWrites (s : State) (e : EngineId) : State :=
  let done := (s.eng e).mem.writes.filter (fun x => match x.job with
    | some j => !(s.eng e).fab.jobs.any (·.id == j)
    | none => false)
  done.foldl (fun s x => completeWrite s e x x.status) s

/-- Start what may start and complete what is done, until nothing changes for want of a pane; `n` bounds the rounds. -/
def pumpWrites : Nat → State → EngineId → State
  | 0, s, _ => s
  | n + 1, s, e =>
    let s := acceptWrites s e
    let s := (s.eng e).mem.writes.foldl (fun s x => startWrite s e x) s
    if (s.eng e).mem.writes.any (fun x => match x.job with
        | some j => !(s.eng e).fab.jobs.any (·.id == j)
        | none => false) then pumpWrites n (endWrites s e) e
    else s

/-- A write of this pane is held in the coded-write path (01 R26). -/
def writeHeld (s : State) (e : EngineId) (window row : Nat) : Bool :=
  (s.eng e).mem.writes.any (fun x => x.accepted && x.window == window && x.row == row)

/-- A read that the engine serves (01 R25, R26): from the stack once its pane is installed and its writes are stamped. -/
def serveRead (s : State) (e : EngineId) (window row : Nat) : State :=
  match windowRec s e window with
  | none => s.modMem e (fun m => { m with reads := m.reads.erase (window, row) })
  | some w =>
    if writeHeld s e window row then s
    else
      let done := fun (s : State) (status : Nat) (data : List Byte) =>
        agentDone (s.modMem e (fun m => { m with reads := m.reads.erase (window, row) })) e ((w.base + row) * 64) false status data
      match paneUsable s e w row with
      | (s, .good) => done (if rowPresent s e w row then noteMem s e 2 none false (w.paneAt row) 4096 else s) 0 (rowBytes s e w row)
      | (s, .wait) => s
      | (s, .bad) => done s 0x40 []
      | (s, .lost) => done s 0x10 []

def pumpReads (s : State) (e : EngineId) : State :=
  (s.eng e).mem.reads.foldl (fun s r => serveRead s e r.1 r.2) s

/-! ## The commands -/

/-- A response answers an outstanding request of its kind (01 R17-R19); one that names no such request changes nothing. -/
def memAnswer (s : State) (e : EngineId) (tag status : Nat) (poisoned ack : Bool) : State :=
  match (s.eng e).mem.memReqs.find? (fun r => r.tag == tag && r.isWrite == ack) with
  | none => s
  | some r => memResponse s e r status poisoned

/-- A presence lookup of a present engine: the map's word is read first, and reloaded from the image where it cannot be (01 R25,
R26, 11 R324). A pane whose ledger entry says that its content is not trusted is an erasure, whose range is opened first (03 R96). -/
def lookup (s : State) (e : EngineId) (pane : Nat) : State × Presence :=
  match windowAt s e (pane * 4096) with
  | none => (s, .present)
  | some (w, r) =>
    let (s, ok) := sramRead s e sramPresence pane
    let s := if ok then s else s.modMem e (fun m =>
      let on := bit (leNat (m.hbm.read (w.bitAt r) 1)) (r % 8)
      let rest := m.presence.filter (· != (w.number, r))
      { m with presence := if on then (w.number, r) :: rest else rest })
    let s := if inRange s e w.number r then s else (checkRow s e w r).1
    let s := if inRange s e w.number r && (inLocalRange s e w.number r || notInstalled s e w.number r) then bump s e cntDegradedReads 1 else s
    if inRange s e w.number r || writeHeld s e w.number r || paneLost s e w.number r || installing s e w.number r then
      (s.modMem e (fun m => { m with reads := m.reads ++ [(w.number, r)] }), .engine)
    else (s, if rowPresent s e w r then .present else .zero)

/-- A presence lookup: while the engine is absent, the controller answers PRESENT itself (01 R25, R55). -/
def lookupAnswer (s : State) (e : EngineId) (pane : Nat) : State :=
  let (s, a) := if present s e then lookup s e pane else (s, .present)
  pumpReads (s.modMem e (fun m => { m with lookupOut := m.lookupOut ++ [(pane, a)] })) e

/-- A write of this pane is held at the filter. -/
def heldAtFilter (s : State) (e : EngineId) (g : Nat) : Option CodedWrite :=
  (s.eng e).mem.writes.find? (fun x => !x.accepted && x.granule / 64 == g / 64)

/-! ## Taps (11 R309) -/

/-- A tap entry: VALID, LAYER, BASE_PANE and PANES. -/
def tapEntry (s : State) (e : EngineId) (t : Nat) : Bool × Nat × Nat × Nat :=
  let v := regNth s e regTap t
  (bit v 63, bits v 59 48, bits v 47 24, bits v 23 0)

def tapCovers (s : State) (e : EngineId) (t g : Nat) : Bool :=
  let (valid, _, base, panes) := tapEntry s e t
  valid && 64 * base ≤ g && g < 64 * (base + panes)

/-- The hash of one write. -/
def tapHash (offset : Nat) (byteEn : BitVec 64) (data : List Byte) : Nat :=
  leNat ((blake3 (leBytes offset 8 ++ leBytes byteEn.toNat 8 ++ mergeBytes (zeros 64) data byteEn)).take 16)

def tapSum (s : State) (e : EngineId) (t : Nat) : TapSum := AList.getD (s.eng e).lou.taps t { sum := 0, count := 0 }

def tapAdd (s : State) (e : EngineId) (t g : Nat) (byteEn : BitVec 64) (data : List Byte) : State :=
  let (_, _, base, _) := tapEntry s e t
  let x := tapSum s e t
  let y : TapSum := { sum := (x.sum + tapHash (g - 64 * base) byteEn data) % 2 ^ 128, count := (x.count + 1) % 2 ^ 64 }
  s.modLou e (fun l => { l with taps := AList.set l.taps t y })

/-- Every valid tap range that a granule write falls into adds its hash. -/
def tapWrite (s : State) (e : EngineId) (g : Nat) (byteEn : BitVec 64) (data : List Byte) : State :=
  let taps := (List.range 4).filter (fun t => tapCovers s e t g)
  let s := taps.foldl (fun s t => tapAdd s e t g byteEn data) s
  if taps.isEmpty then s else bumpCycles s e cntTapHoldCycles 0

/-- The same for each granule of a run. -/
def tapRun : List (BitVec 64) → State → EngineId → Nat → List Byte → State
  | [], s, _, _, _ => s
  | b :: bs, s, e, g, d => tapRun bs (tapWrite s e g b (d.take 64)) e (g + 1) (d.drop 64)

/-! ## Agents' writes -/

/-- A coded write of granules of one pane is steered, refused, or passed to the stack where no window lies. While the engine is in
reset it is held at the filter; while the engine is absent the controller passes it, unless an earlier write of its pane is still
held (01 R22-R24, R55, R59; DEDUCED, notes/assumptions/36.md). A present engine's taps see it first (11 R309). -/
def codedPane (s : State) (e : EngineId) (g : Nat) (byteEn : List (BitVec 64)) (data : List Byte) : State :=
  if !present s e then
    match heldAtFilter s e g with
    | some x => steerWrite s e g byteEn data x.window x.row
    | none => agentDone (plainRun byteEn s e g data) e g true 0 []
  else if runPrivate s e g byteEn.length then refuseWrite s e g
  else
    let s := tapRun byteEn s e g data
    match windowAt s e (64 * g) with
    | none => agentDone (plainRun byteEn s e g data) e g true 0 []
    | some (w, r) =>
      if w.cls != 0 || !holdsData s e r then refuseWrite s e g
      else pumpWrites 2 (steerWrite s e g byteEn data w.number r) e

/-- The parts of a run of granules, pane by pane. -/
def paneRuns : Nat → Nat → List (BitVec 64) → List Byte → List (Nat × List (BitVec 64) × List Byte)
  | 0, _, _, _ => []
  | n + 1, g, bs, d =>
    let k := 64 - g % 64
    if bs.isEmpty || stackGranules ≤ g then [] else (g, bs.take k, d.take (64 * k)) :: paneRuns n (g + k) (bs.drop k) (d.drop (64 * k))

/-- A write that runs past the end of a pane is a write of each pane (notes/assumptions/32.md, DESIGN CHOICE). -/
def codedWrite (s : State) (e : EngineId) (g : Nat) (byteEn : List (BitVec 64)) (data : List Byte) : State :=
  (paneRuns byteEn.length g byteEn data).foldl (fun s p => codedPane s e p.1 p.2.1 p.2.2) s

/-- PRIVATE_ENTRY_ACCESS: the filter refuses it, a read with zero bytes (05 R141). -/
def execPrivateEntryAccess (e : EngineId) (granule : BitVec 30) (write : Bool) (s : State) : Out :=
  let g := granule.toNat
  if !present s e || !isPrivate s e g then .next s
  else if write then .next (refuseWrite s e g)
  else .next (agentDone s e g false 0x60 (zeros 64))

/-- TAP_WRITE: an agent's write into a tap range goes on as any agent's write does (01 R22, R24, 11 R309). -/
def execTapWrite (e : EngineId) (granule : BitVec 30) (byteEn : BitVec 64) (data : List Byte) (s : State) : Out :=
  .next (codedPane s e granule.toNat [byteEn] data)

end Sys2Proof.Machine
end

