-- ==== Sys2Proof/Machine/Copies.lean ====
section
/-!
DEFINITION. COPY in its three modes and what becomes of a mirror's fetched panes (12 R344, 06 R185-R187).
-/

namespace Sys2Proof.Machine

open Sys2Proof

/-! ## LOCAL and ADDF32 -/

/-- A pane-row of an output walk reaches the accumulation region. -/
def walkTouchesAcc (s : State) (e : EngineId) (w : Walk) (panes : Nat) : Bool :=
  (List.range panes).any (fun j => (w.rowElems j).any (fun a => elemInside w a && touchesAcc s e a.toNat (2 ^ w.elog)))

/-- The sums of the FP32 elements of two runs. -/
def addRuns (dst src : List Byte) : List Byte :=
  (List.range (dst.length / 4)).flatMap (fun i =>
    leBytes (F32.add (BitVec.ofNat 32 (leAt dst (4 * i) 4)) (BitVec.ofNat 32 (leAt src (4 * i) 4))).toNat 4)

/-- Copy or add one pane-row. -/
def copyRow (s : State) (e : EngineId) (id : Nat) (src dst : Walk) (add : Bool) (j : Nat) : State :=
  let bs := walkBytes s e src j
  let s := noteRead s e (memClass 0x08) (some id) src j
  let s := if add then noteRead s e (memClass 0x08) (some id) dst j else s
  let s := writeWalk s e dst j (if add then addRuns (walkBytes s e dst j) bs else bs)
  unitDone (noteWrite s e (memClass 0x08) (some id) dst j) e id

/-- Copy pane-row after pane-row from row `done` on: a row that must wait holds the copy, and one that cannot be read or written ends
it, the rows before it copied. -/
def runCopy : Nat → State → EngineId → Nat → Walk → Walk → Nat → Bool → Nat → State
  | 0, s, _, _, _, _, _, _, _ => s
  | n + 1, s, e, id, src, dst, panes, add, done =>
    if panes ≤ done then endWork s e id 0
    else match walksState s e (if add then [src, dst] else [src]) done with
      | (s, .wait) => s
      | (s, .bad) => endWork s e id 0x40
      | (s, .lost) => endWork s e id 0x10
      | (s, .good) =>
        if !dst.rowInside done then endWork s e id 0x40
        else
          let s := setWork s e id (.copy src dst panes add (done + 1))
          runCopy n (copyRow s e id src dst add done) e id src dst panes add (done + 1)

/-- REGEN makes every instruction act as if NON_EXACT were clear (11 R331). -/
def nonExact (s : State) (e : EngineId) (i : RawInstr) : Bool := i.body.nonExact && !bit (reg s e regAuditMode) 1

/-- COPY LOCAL and ADDF32 at dispatch. -/
def beginCopy (s : State) (e : EngineId) (i : RawInstr) : State :=
  let add := i.f3 1 0 == 2
  let n := i.f2 31 0
  guardAll s e i n [
    (i.f1 63 32 != 0 || i.f2 63 32 != 0 || i.f3 63 2 != 0 || reg s e regDescCount ≤ i.f1 15 0 || reg s e regDescCount ≤ i.f1 31 16,
      0x60, 4),
    (add && !nonExact s e i, 0x60, 5), (n == 0, 0x01, 6),
    (!(descReadable s e (i.f1 15 0) 1 && descReadable s e (i.f1 31 16) 1), 0x40, 5)]
    (match passWalker s e (i.f1 15 0) n, passWalker s e (i.f1 31 16) n with
     | some src, some dst =>
       if walkTouches s e dst n || walkTouchesAcc s e dst n || (add && (src.elog != 2 || dst.elog != 2)) then
         endNow s e i n 0x60 5
       else
         let s := if add then s.modLou e (fun l => { l with nondetNon := (l.nondetNon + 1) % 2 ^ 63 }) else s
         launch s e i none n (.copy src dst n add 0)
     | _, _ => endNow s e i n 0x60 5)

def copyUnits (_ : State) (_ : EngineId) (i : RawInstr) : Nat := i.f2 31 0

/-- COPY LOCAL copies pane-rows from one walk to another (12 R344). -/
def execCopyLocal (i : EngineInstr) (s : State) : Out := .next (route copyUnits beginCopy (rowInstr 0x08 i 3 0) s)

/-- COPY ADDF32 adds FP32 elements into its destination walk (12 R344). -/
def execCopyAddf32 (i : EngineInstr) (s : State) : Out := .next (route copyUnits beginCopy (rowInstr 0x08 i 3 2) s)

/-! ## MIRROR -/

def ownerChip (s : State) (e : EngineId) (entry : Nat) : Option Nat := (mirOwner s e (mirEntry s e entry)).map (·.chip)
def ownerLost (s : State) (e : EngineId) (entry : Nat) : Bool := (mirOwner s e (mirEntry s e entry)).any (·.state == 2)

/-- A mirror entry names this chip's buffer. -/
def mirrorHere (s : State) (e : EngineId) (entry : Nat) : Bool :=
  (mirEntry s e entry).valid && (mirEntry s e entry).chip == chipId s && (ownerChip s e entry).isSome

/-- COPY MIRROR at dispatch. -/
def beginMirror (s : State) (e : EngineId) (i : RawInstr) : State :=
  let n := i.f2 31 0
  let first := i.f2 63 32
  let entry := i.f3 15 8
  guardAll s e i n [
    (i.body.w1 != 0 || i.f3 31 16 != 0 || i.f3 7 2 != 0, 0x60, 4),
    (!mirrorHere s e entry || (mirEntry s e entry).count < first + n, 0x60, 5), (n == 0, 0x01, 6),
    (ownerLost s e entry, 0x10, 0)]
    (launch s e i none n (.mirror entry (i.f3 63 32) ((List.range n).map (· + first))))

/-- COPY MIRROR fetches data panes from their owner (12 R344). -/
def execCopyMirror (i : EngineInstr) (s : State) : Out := .next (route copyUnits beginMirror (rowInstr 0x08 i 3 1) s)

/-- Ask the owner to arbitrate a pane (06 R187, 11 R312). -/
def askArbitration (s : State) (e : EngineId) (owner : Owner) (entry index step : Nat) : State :=
  match ownerChip s e entry with
  | none => s
  | some chip =>
    let m := mirEntry s e entry
    let row := mirRow s e m index
    request s e owner chip e.val 3 kindMirrorReq (placeOf m.window row ((geo s e).columnOf row m.slot) 0) step
      (mirExt false false false true 0 0) []

/-- Every request of a fetch has been answered. -/
def fetchAnswered (s : State) (e : EngineId) (id : Nat) : Bool := !(s.eng e).fab.requests.any (fun r => r.owner == .fetch id)

/-- A fetched pane of a COPY: stored, fetched once more, or given up with VERIFIED clear (06 R187); the entry then takes the STEP_TAG
of the first response (notes/assumptions/38.md, DESIGN CHOICE). Whether it is done with. -/
def finishFetch (s : State) (e : EngineId) (id : Nat) (f : Fetch) : State × Bool :=
  match f.refused with
  | some st => (addCause (dropFetch s e f.id) e id st, true)
  | none =>
    let s := if f.whole then bump s e cntPaneDigests 1 else s
    if f.agrees then
      if mirrorFree s e f.entry f.index then (bump (storeMirror (dropFetch s e f.id) e f true) e cntMirrorPanes 1, true) else (s, false)
    else if !f.again then
      let g := { f with again := true, segments := [], digest := none, tags := [] }
      (sendFetch (modFetch s e f.id (fun _ => g)) e g, false)
    else
      let s := digestMismatch (dropFetch s e f.id) e
      let s := setMirTag s e (mirEntry s e f.entry) f.index ((f.tags.head?).getD 0) false
      (addCause (askArbitration s e (.op id) f.entry f.index f.step) e id 0x40, true)

/-- Go on with a COPY MIRROR: one pane after another. -/
def pumpMirror : Nat → State → EngineId → Nat → State
  | 0, s, _, _ => s
  | n + 1, s, e, id =>
    match findOp s e id with
    | none => s
    | some o => match o.work with
      | .mirror entry step todo =>
        match (s.eng e).reb.fetches.find? (fun f => f.owner == .op id) with
        | some f =>
          if !fetchAnswered s e f.id then s
          else
            let (s, done) := finishFetch s e id f
            if done then pumpMirror n (unitDone (setWork s e id (.mirror entry step (todo.drop 1))) e id) e id else s
        | none => match todo with
          | [] => endWork s e id 0
          | q :: _ => match ownerChip s e entry with
            | none => endWork s e id 0x60
            | some chip => if ownerLost s e entry then endWork s e id 0x10
                           else startFetch s e (.op id) chip entry q step false
      | _ => s

end Sys2Proof.Machine
end

