-- ==== Sys2Proof/Machine/Loupe.lean ====
section
/-!
DEFINITION. The loupe's instructions: DIGEST in its modes and COMPARE (11 R306-R312).
-/

namespace Sys2Proof.Machine

open Sys2Proof

/-! ## DIGEST PANES and TREE (11 R308) -/

/-- Bytes that DIGEST writes. -/
def digestOut (tree rootOnly : Bool) (ds : List (List Byte)) : List Byte :=
  if !tree then ds.flatten
  else
    let nodes := treeLevels 8 0 ds
    if rootOnly then nodes.getLast?.getD [] else nodes.flatten

/-- Nodes above level 0 over `n` digests. -/
def nodeCount : Nat → Nat → Nat
  | 0, _ => 0
  | f + 1, n => let up := (n + 63) / 64
                if up ≤ 1 then up else up + nodeCount f up

def digestBytes (tree rootOnly : Bool) (count : Nat) : Nat :=
  32 * (if !tree then count else if rootOnly then 1 else nodeCount 8 count)

/-- Where the bytes of a walk from `off` on lie, `len` of them: for each element the address, the place in the run and the length. -/
def Walk.parts (w : Walk) (off len : Nat) : List (Int × Nat × Nat) :=
  let n := 2 ^ w.elog
  (List.range (ceilDiv (off + len) n - off / n)).map (fun i =>
    let k := off / n + i
    let lo := max off (k * n)
    (w.addr k + (lo - k * n : Nat), lo - off, min (off + len) ((k + 1) * n) - lo))

/-- Write a run of bytes at its parts. -/
def writeParts (s : State) (e : EngineId) (id : Nat) (ps : List (Int × Nat × Nat)) (bs : List Byte) : State :=
  ps.foldl (fun s p => storeMem s e (memClass 0x40) (some id) p.1.toNat (slice bs p.2.1 p.2.2)) s

/-- What writing such parts comes to: 0x60 where one reaches a coded window, 0x40 where one leaves the stack (04 R118, R122). -/
def partsStatus (s : State) (e : EngineId) (ps : List (Int × Nat × Nat)) : Nat :=
  let inside := fun (p : Int × Nat × Nat) => 0 ≤ p.1 && p.1 + (p.2.2 : Nat) ≤ (stackBytes : Int)
  if ps.any (fun p => inside p && touchesWindow s e p.1.toNat p.2.2) then 0x60 else if ps.all inside then 0 else 0x40

/-- A pane of a coded window that is being written is digested after its stamp; the read holds its freeze, and waits where the engine
holds as many as it may (09 R266, 11 R306). -/
def digestWaits (s : State) (e : EngineId) (w : Walk) (j : Nat) : Bool :=
  let ps := walkPanes s e w ((w.rowElems j).filter (elemInside w))
  ps.any (fun p => paneInFlight s e p.1.number p.2) || (!ps.isEmpty && reg s e regChainsMax ≤ activeInstalls s e)

/-- Every pane-row has been digested: TREE writes its nodes, unless their walk reaches a coded window (11 R308, 04 R118). -/
def digestEnd (s : State) (e : EngineId) (id : Nat) (dst : Walk) (tree rootOnly : Bool) (ds : List (List Byte)) : State :=
  let bs := if tree then digestOut tree rootOnly ds else []
  let ps := dst.parts 0 bs.length
  let st := partsStatus s e ps
  endPass (if st == 0 then writeParts s e id ps bs else s) e id st

/-- The digest of pane-row `j` is formed, and PANES writes it (11 R306, R308). -/
def digestRow (s : State) (e b : EngineId) (id j : Nat) (src dst : Walk) (count : Nat) (tree rootOnly : Bool) (ds : List (List Byte)) : State :=
  let s := if e == b then s else chargeXbar s e b 0 32
  let d := paneDigest (walkBytes s e src j)
  let s := bump (noteRead s e (memClass 0x40) (some id) src j) e cntPaneDigests 1
  let s := if tree then s else writeParts s e id (dst.parts (32 * j) 32) d
  unitDone (setWork s e id (.digest src dst count tree rootOnly (ds ++ [d]) 0)) e id

/-- Digest pane-row after pane-row, as far as the panes, and the crossbar budget of a lent one, allow (04 R131, 11 R306, R308). -/
def runDigest : Nat → State → EngineId → EngineId → Nat → State
  | 0, s, _, _, _ => s
  | n + 1, s, e, b, id =>
    match findWork s e id with
    | .digest src dst count tree rootOnly ds lent =>
      let j := ds.length
      if count ≤ j then digestEnd s e id dst tree rootOnly ds
      else if digestWaits s e src j then s
      else match walkState s e src j with
        | (s, .wait) => s
        | (s, .bad) => endPass s e id 0x40
        | (s, .lost) => endPass s e id 0x10
        | (s, .good) =>
          let st := if tree then 0 else partsStatus s e (dst.parts (32 * j) 32)
          let (s, l) := streamLent s e b 16 0 lent
          if st != 0 then endPass s e id st
          else if l < 256 then setWork s e id (.digest src dst count tree rootOnly ds l)
          else runDigest n (digestRow s e b id j src dst count tree rootOnly ds) e b id
    | _ => s

/-- The tap record (11 R310). -/
def tapRecord (step layer tap : Nat) (x : TapSum) : List Byte :=
  leBytes (put step 32 480 + put layer 12 468 + put tap 2 466 + put x.count 64 400 + put x.sum 128 256) 64

/-- DIGEST TAPCLOSE writes its record and starts the tap again. -/
def tapClose (s : State) (e : EngineId) (i : RawInstr) : State :=
  let step := i.f3 63 32
  let t := i.f3 5 4
  let (_, layer, _, _) := tapEntry s e t
  let at_ := reg s e regTapRingBase * 4096 + 64 * (step % 1024 * 4 + t)
  let s := storeMem s e (memClass 0x40) none at_ (tapRecord step layer t (tapSum s e t))
  endNow (s.modLou e (fun l => { l with taps := AList.erase l.taps t })) e i 1 0x00 0

/-- DIGEST at dispatch. A TAPCLOSE whose tap entry is not VALID, or whose ring is unconfigured, ends with 0x60 (12 R351);
TAP_RING_BASE is unconfigured while it is 0 (notes/assumptions/62.md, DEDUCED). -/
def beginDigest (s : State) (e : EngineId) (i : RawInstr) : State :=
  let tree := i.f3 1 0 == 1
  let root := i.f3 2 2 == 1
  let n := i.f2 23 0
  if i.f3 1 0 == 2 then
    (if i.body.w1 != 0 || i.body.w2 != 0 || i.f3 31 6 != 0 || i.f3 3 2 != 0 then endNow s e i 1 0x60 4 
     else if !(tapEntry s e (i.f3 5 4)).1 || reg s e regTapRingBase == 0 then endNow s e i 1 0x60 5
     else tapClose s e i)
  else guardAll s e i n [
    (i.f1 63 32 != 0 || i.f2 63 24 != 0 || i.f3 63 3 != 0 || (!tree && root) || reg s e regDescCount ≤ i.f1 15 0
      || reg s e regDescCount ≤ i.f1 31 16, 0x60, 4),
    (n == 0, 0x01, 6), (!(descReadable s e (i.f1 15 0) 1 && descReadable s e (i.f1 31 16) 1), 0x40, 5)]
    (match passWalker s e (i.f1 15 0) n, walker s e (i.f1 31 16) with
     | some src, some dst =>
       if dst.bytes < digestBytes tree root n then endNow s e i n 0x60 5
       else launchArray s e i n (.digest src dst n tree root [] 0)
     | _, _ => endNow s e i n 0x60 5)

def digestUnits (_ : State) (_ : EngineId) (i : RawInstr) : Nat := if i.f3 1 0 == 2 then 1 else i.f2 23 0

/-- DIGEST PANES writes a digest for each pane-row (11 R308). -/
def execDigestPanes (i : EngineInstr) (s : State) : Out := .next (route digestUnits beginDigest (rowInstr 0x40 i 3 0) s)

/-- DIGEST TREE writes the nodes of the digest tree, or its root (11 R308). -/
def execDigestTree (i : EngineInstr) (s : State) : Out := .next (route digestUnits beginDigest (rowInstr 0x40 i 3 1) s)

/-- DIGEST TAPCLOSE closes a tap into its ring (11 R310). -/
def execDigestTapclose (i : EngineInstr) (s : State) : Out := .next (route digestUnits beginDigest (rowInstr 0x40 i 3 2) s)

/-! ## COMPARE (11 R312) -/

def compareGroups (s : State) (e : EngineId) (entry : Nat) : Nat := ceilDiv (mirEntry s e entry).count 64
def compareUnits (s : State) (e : EngineId) (i : RawInstr) : Nat := compareGroups s e (i.f3 15 8)

/-- The panes of a group. -/
def groupPanes (m : MirEntry) (j : Nat) : List Nat := (List.range (min 64 (m.count - 64 * j))).map (· + 64 * j)

/-- A group is skipped (11 R312, step 1). -/
def groupSkips (s : State) (e : EngineId) (m : MirEntry) (step j : Nat) : Bool :=
  (groupPanes m j).any (fun q => !(mirTag s e m q).2 || step < (mirTag s e m q).1)

/-- Ask the owner for the node of a group, or the digest of a pane. -/
def askMirror (s : State) (e : EngineId) (id entry index step ext : Nat) : State :=
  match ownerChip s e entry with
  | none => s
  | some chip =>
    let m := mirEntry s e entry
    let row := mirRow s e m index
    request s e (.op id) chip e.val 3 kindMirrorReq (placeOf m.window row ((geo s e).columnOf row m.slot) 0) step ext []

/-- Go on with a COMPARE: a group ends when every request of it is answered. -/
def pumpCompare : Nat → State → EngineId → Nat → State
  | 0, s, _, _ => s
  | n + 1, s, e, id =>
    match findOp s e id with
    | none => s
    | some o => match o.work with
      | .compare entry step todo begun =>
        if (s.eng e).fab.requests.any (fun r => r.owner == .op id) then s
        else if begun then pumpCompare n (unitDone (setWork s e id (.compare entry step todo false)) e id) e id
        else match todo with
          | [] => endWork s e id 0
          | j :: rest =>
            let m := mirEntry s e entry
            let s := setWork s e id (.compare entry step rest true)
            if ownerLost s e entry then endWork s e id 0x10
            else if groupSkips s e m step j then pumpCompare n (bump s e cntMirrorCompareSkipped 1) e id
            else askMirror s e id entry (64 * j) step (mirExt false false true false ((groupPanes m j).length - 1) j)
      | _ => s

/-- The index in an entry's range of the pane that a request names. -/
def mirIndex (s : State) (e : EngineId) (m : MirEntry) (row : Nat) : Nat := dataIndexOf (geo s e) m.slot row - m.first

/-- A response to a request of COMPARE: a node that differs asks for digests, a digest that differs for arbitration. -/
def compareResp (s : State) (e : EngineId) (id : Nat) (req resp : Chunk) : State :=
  match findOp s e id with
  | none => s
  | some o => match o.work with
    | .compare entry step _ _ =>
      let m := mirEntry s e entry
      let theirs := slice resp.payload 0 32
      if req.x 26 26 == 1 then
        let ps := groupPanes m (req.x 18 0)
        let s := ps.foldl (fun s q => noteMem s e 3 (some id) false (m.buf + 4096 * q) 4096) (bump s e cntPaneDigests ps.length)
        if !ps.all (fun q => readable s e (m.buf + 4096 * q) 4096) then endPass s e id 0x40
        else if treeNode 0 (req.x 18 0) (ps.map (fun q => paneDigest (mirPane s e m q))) == theirs then s
        else ps.foldl (fun s q => askMirror s e id entry q step (mirExt true false false false 0 0)) s
      else if req.x 28 28 == 1 then
        let q := mirIndex s e m req.row
        let s := bump (noteMem s e 3 (some id) false (m.buf + 4096 * q) 4096) e cntPaneDigests 1
        if !readable s e (m.buf + 4096 * q) 4096 then endPass s e id 0x40
        else if paneDigest (mirPane s e m q) == theirs then s
        else
          let s := setMirTag (digestMismatch s e) e m q (mirTag s e m q).1 false
          let s := if o.causes.contains 0x40 then s else addCause s e id 0x40
          askArbitration s e (.op id) entry q step
      else s
    | _ => s

/-- COMPARE at dispatch. -/
def beginCompare (s : State) (e : EngineId) (i : RawInstr) : State :=
  let u := compareUnits s e i
  let entry := i.f3 15 8
  guardAll s e i u [
    (i.body.w1 != 0 || i.body.w2 != 0 || i.f3 31 16 != 0 || i.f3 7 0 != 0, 0x60, 4),
    (!mirrorHere s e entry, 0x60, 5), (u == 0, 0x01, 6)]
    (let id := nextOp s e
     pumpCompare (u + 1) (launch s e i none u (.compare entry (i.f3 63 32) (List.range u) false)) e id)

/-- COMPARE compares a mirror buffer with its owner by digests (11 R312). -/
def execCompare (i : EngineInstr) (s : State) : Out := .next (route compareUnits beginCompare (rowInstr 0x41 i 0 0) s)

end Sys2Proof.Machine
end

