-- ==== Sys2Proof/Machine/Staged.lean ====
section
/-!
DEFINITION. Staged groups: shadows and committed copies, the validation of each group, the swap at its safe point, commits,
discards and rejections (13 R363-R370; the rules of the members: 04 R120, R135, 05 R141, 06 R172-R173, R188, 07 R220, 08 R224,
R242-R243, 09 R248, R259, 10 R303, 11 R309, R329, 14 R383, R386, R388, 16 R422).
-/

namespace Sys2Proof.Machine

open Sys2Proof

/-! ## The two scopes (13 R357) -/

/-- An engine, or the coordinator. -/
abbrev Scope := Option EngineId

/-- The written values of a scope. -/
structure Store where
  regs        : RegFile
  shadow      : RegFile
  blobs       : BlobFile
  shadowBlobs : BlobFile
  groups      : AList Nat GroupStat
  asm         : Option BlobAsm
deriving DecidableEq, Repr

def storeOf (s : State) : Scope → Store
  | some e =>
    let d := (s.eng e).dict
    { regs := d.regs, shadow := d.shadow, blobs := d.blobs, shadowBlobs := d.shadowBlobs, groups := d.groups, asm := d.asm }
  | none =>
    let d := s.group.dict
    { regs := d.regs, shadow := d.shadow, blobs := d.blobs, shadowBlobs := d.shadowBlobs, groups := d.groups, asm := d.asm }

def modStore (s : State) (sc : Scope) (f : Store → Store) : State :=
  let t := f (storeOf s sc)
  match sc with
  | some e => s.modDict e (fun d => { d with
      regs := t.regs, shadow := t.shadow, blobs := t.blobs, shadowBlobs := t.shadowBlobs, groups := t.groups, asm := t.asm })
  | none => s.modGDict (fun d => { d with
      regs := t.regs, shadow := t.shadow, blobs := t.blobs, shadowBlobs := t.shadowBlobs, groups := t.groups, asm := t.asm })

def groupStat (s : State) (sc : Scope) (g : Nat) : GroupStat := AList.getD (storeOf s sc).groups g GroupStat.init
def setStat (s : State) (sc : Scope) (g : Nat) (v : GroupStat) : State :=
  modStore s sc (fun t => { t with groups := AList.set t.groups g v })

/-- Groups 9, 11 and 12 are the coordinator's (14 R388, 15 R415, 16 R422). -/
def groupShared (g : Nat) : Bool := g == 9 || g == 11 || g == 12

/-- An entry is a member of a group (13 R363). -/
def isMember (g index sub : Nat) : Bool :=
  match findEntry index sub with
  | some en => en.right == .rws && en.group == g
  | none => false

/-- `to_` with the members of a group taken from `from_`. -/
def takeRegs (g : Nat) (from_ to_ : RegFile) : RegFile :=
  from_.filter (fun p => isMember g p.1.1 p.1.2.1) ++ to_.filter (fun p => !isMember g p.1.1 p.1.2.1)
def takeBlobs (g : Nat) (from_ to_ : BlobFile) : BlobFile :=
  from_.filter (fun p => isMember g p.1.1 p.1.2) ++ to_.filter (fun p => !isMember g p.1.1 p.1.2)

/-- The committed copy of a group becomes its shadow's. -/
def Store.swap (t : Store) (g : Nat) : Store :=
  { t with regs := takeRegs g t.shadow t.regs, blobs := takeBlobs g t.shadowBlobs t.blobs }

/-- The shadow of a group becomes a copy of its committed values. -/
def Store.discard (t : Store) (g : Nat) : Store :=
  { t with shadow := takeRegs g t.regs t.shadow, shadowBlobs := takeBlobs g t.blobs t.shadowBlobs }

/-- The members that a swap would change: index, sub-index, element. -/
def Store.changed (t : Store) (six : Bool) (g : Nat) : List RegKey :=
  (((t.shadow ++ t.regs).map (·.1)).filter (fun k => isMember g k.1 k.2.1
    && regIn six t.shadow k.1 k.2.1 k.2.2 != regIn six t.regs k.1 k.2.1 k.2.2)).eraseDups
  ++ ((((t.shadowBlobs ++ t.blobs).map (·.1)).filter (fun k => isMember g k.1 k.2
    && blobIn t.shadowBlobs k.1 k.2 != blobIn t.blobs k.1 k.2)).map (fun k => (k.1, k.2, 0))).eraseDups

/-! ## Rejections (13 R370) -/

/-- What a rejection names: the entry, the check and the reason. -/
structure Reject where
  index  : Nat
  sub    : Nat
  check  : Nat
  reason : Nat
deriving DecidableEq, Repr

/-- The 8 bytes of a refused transaction. -/
def rejectData (engine : Nat) (r : Reject) : Nat :=
  put engine 4 48 + put r.index 16 32 + put r.sub 8 16 + put r.check 8 8 + put r.reason 8 0

def scopeId : Scope → Nat
  | some e => e.val
  | none => 0xe

/-- The first of a list of conditions that holds breaks the rule of its entry: reason 0x60. -/
def firstBroken (l : List (Bool × (Nat × Nat))) : Option Reject :=
  (l.find? (·.1)).map (fun p => { index := p.2.1, sub := p.2.2, check := 0, reason := 0x60 })

/-! ## Regions of the stack (10 R303) -/

def codedRanges (s : State) (e : EngineId) : List (Nat × Nat) := (myWindows s e).flatMap Window.ranges
def accAll (s : State) (e : EngineId) : List (Nat × Nat) := [accRegion s e, accRecords s e]
def stepRing (s : State) (e : EngineId) : Nat × Nat := (reg s e regStepRingBase * 4096, 262144)
def deltaGather (s : State) (e : EngineId) : Nat × Nat :=
  (reg s e regDeltaGatherBase * 4096, 2 * (geo s e).n * (geo s e).k * 4096)
def coldGather (s : State) (e : EngineId) : Nat × Nat := (reg s e regColdGatherBase * 4096, (geo s e).n * (geo s e).k * 4096)
def repairPane (s : State) (e : EngineId) : Nat × Nat := (reg s e regColdRepairBase * 4096, 4096)
def bitmapRange (s : State) (e : EngineId) : Nat × Nat := (reg s e regRebuildMapBase * 4096, bitmapOffset s e 16)
def stagingRange (s : State) (e : EngineId) : Nat × Nat := (reg s e regSnapStageBase * 4096, reg s e regSnapStagePanes * 4096)
def shadowRange (s : State) (e : EngineId) : Nat × Nat := (reg s e regShadowBase * 4096, reg s e regShadowPanes * 4096)
def auditRange (s : State) (e : EngineId) : Nat × Nat :=
  (reg s e regAuditRingBase * 4096, (128 * reg s e regAuditSteps + 2) * 4096)
def tapRange (s : State) (e : EngineId) : Nat × Nat := (reg s e regTapRingBase * 4096, 262144)
def drillRange (s : State) (e : EngineId) : Nat × Nat := (reg s e regDrillRegionBase * 4096, reg s e regDrillRegionPanes * 4096)

/-- A region leaves the stack or meets one of others; an empty region does neither. -/
def clashes (r : Nat × Nat) (others : List (Nat × Nat)) : Bool := r.2 != 0 && (!insideStack r || others.any (overlap r))

/-- The regions that R303 keeps the snapshot regions clear of. -/
def fixedRegions (s : State) (e : EngineId) : List (Nat × Nat) :=
  codedRanges s e ++ accAll s e ++ [stepRing s e, deltaGather s e, coldGather s e, bitmapRange s e, descRange s e]

/-- The other regions of its stack that a rebuild bitmap must not overlap (09 R259). -/
def bitmapOthers (s : State) (e : EngineId) : List (Nat × Nat) :=
  codedRanges s e ++ accAll s e ++ [stepRing s e, descRange s e, deltaGather s e, coldGather s e, repairPane s e, stagingRange s e,
    shadowRange s e, auditRange s e, tapRange s e, drillRange s e]

/-- A map lists this chip as a spare: only then may it need a rebuild bitmap (09 R259). -/
def listedSpare (s : State) (e : EngineId) : Bool :=
  match mapOf s e with
  | none => false
  | some m => m.spares.any (fun x => x.chip == s.group.lc.chipId)

/-! ## Entries that take effect at arm only -/

def armOnly (g : Nat) : List (Nat × Nat) :=
  match g with
  | 0 => [regDeltaGatherBase, regRebuildMapBase]
  | 3 => [regStepRingBase]
  | 4 => [regAccRegionBase, regAccRegionSize, regAccRecordBase]
  | 5 => [regAuditMode, regAuditRingBase, regAuditSteps, regTapRingBase]
  | 6 => [regTierDirWindow, regPoolWindow, regColdRepairBase, regColdGatherBase]
  | 7 => [regSnapMode, regSnapStageBase, regSnapStagePanes, regShadowBase, regShadowPanes, regArchiveBase0, regArchiveBase1,
          regArchivePanes]
  | 10 => [regDrillRegionBase, regDrillRegionPanes]
  | _ => []

/-- Changes of such entries after arm; `c` is the state with the shadow in force. -/
def lateChanges (s c : State) (e : EngineId) (g : Nat) : List (Bool × (Nat × Nat)) :=
  (armOnly g).map (fun r => (armed s e && reg c e r != reg s e r, r))

/-! ## The update group (06 R172, R173, R188; 08 R242) -/

/-- Which operand fields an OP reads (06 R170); none for a reserved OP. -/
def opReads (op : Nat) : Option (List Nat) :=
  if op ≤ 2 then some []
  else if op == 3 || op == 4 || op == 0xd || op == 0x10 || op == 0x11 || op == 0x12 then some [0]
  else if [8, 9, 0xa, 0xb, 0xe, 0xf].contains op then some [0, 1]
  else if op == 0xc || op == 0x13 then some [0, 1, 2]
  else none

/-- A microinstruction breaks 06 R172. -/
def uopBad (w : Nat) : Bool :=
  let op := bits w 63 58
  match opReads op with
  | none => true
  | some fs => fs.any (fun f => 0x34 < bits w (53 - 6 * f) (48 - 6 * f)) || ((op == 1 || op == 3) && 8 ≤ bits w 35 32)

/-- A valid directory word whose program breaks 06 R172. -/
def dirBad (c : State) (e : EngineId) (p : Nat) : Bool :=
  let d := regNth c e regProgramDir p
  let len := bits d 14 8
  let first := bits d 7 0
  let prog := (List.range len).map (fun i => regElem c e regUcodeTable (first + i))
  bit d 15 && (len == 0 || 64 < len || bits d 31 16 != 0 || 256 < first + len || prog.any uopBad
    || !prog.any (fun w => bits w 63 58 == 0))

def anyLive (s : State) (e : EngineId) : Bool := (validSlots s e).any (fun o => !(liveParcels s e o).isEmpty)

/-! ## The residency group (08 R224, R243) -/

/-- Data-pane ranges of valid entries: window, first, panes. -/
def homeOf (r : ResEntry) : Nat × (Nat × Nat) := (r.homeWindow, (r.homeFirst, r.span))
def ringOf (r : ResEntry) : Nat × Nat := (r.poolFirst, r.depth * r.parcel)

/-- The slots whose data panes a range is held to: the member's own, or any that a spare may take (notes/assumptions/57.md, DEDUCED). -/
def residentSlots (c : State) (e : EngineId) : List Nat := match mySlot c e with | some sl => [sl] | none => List.range (geo c e).n

/-- A data-pane range leaves the data panes of a window of one class. -/
def rangeLeaves (c : State) (e : EngineId) (cls w : Nat) (r : Nat × Nat) : Bool :=
  match windowRec c e w with
  | none => true
  | some x => x.cls != cls || (residentSlots c e).any (fun sl => dataPanes (geo c e) sl x.length < r.1 + r.2)

/-- The bay, home or ring range of an entry leaves the data panes of its window (08 R224). -/
def entryLeaves (c : State) (e : EngineId) (o : Nat) : Bool :=
  let r := resEntry c e o
  let pool := reg c e regPoolWindow
  rangeLeaves c e 0 r.bayWindow (r.bayFirst, r.span) || rangeLeaves c e 2 r.homeWindow (r.homeFirst, r.span)
  || (pool != 0xff && rangeLeaves c e 0 pool (ringOf r))

/-- No two of a list of ranges meet, each with a key that must agree. -/
def homesMeet : List (Nat × (Nat × Nat)) → Bool
  | [] => false
  | h :: hs => hs.any (fun x => x.1 == h.1 && overlap x.2 h.2) || homesMeet hs

/-- A valid entry may not stand so. -/
def entryBad (s c : State) (e : EngineId) (o : Nat) : Bool :=
  let r := resEntry c e o
  let old := resEntry s e o
  let raw := regElem c e regResidency o
  let pool := reg c e regPoolWindow
  r.span == 0 || r.parcel < 2 || r.depth == 0 || 64 < r.depth || bits raw 88 0 != 0
  || (armed c e && entryLeaves c e o)
  || (pool != 0xff && pool == reg c e regTierDirWindow && overlap (ringOf r) (0, 8))
  || (old.valid && raw != regElem s e regResidency o &&
      (resState s e o != stHot || !(liveParcels s e o).isEmpty || r.bayWindow != old.bayWindow || r.bayFirst != old.bayFirst
       || r.span != old.span))

/-- A valid entry may not be taken away while its object is not HOT or holds a live parcel. -/
def removalBad (s c : State) (e : EngineId) (o : Nat) : Bool :=
  !(resEntry c e o).valid && (resState s e o != stHot || !(liveParcels s e o).isEmpty)

def windowNotState (c : State) (e : EngineId) (r : Nat × Nat) : Bool :=
  let w := reg c e r
  w != 0xff && armed c e && (match windowRec c e w with | none => true | some x => x.cls != 0 || !x.isHot)

/-- The directory window holds fewer than 8 data panes for some slot (08 R225). -/
def dirShort (c : State) (e : EngineId) : Bool :=
  let w := reg c e regTierDirWindow
  w != 0xff && armed c e && (match windowRec c e w with
    | none => true
    | some x => (List.range (geo c e).n).any (fun sl => dataPanes (geo c e) sl x.length < 8))

/-! ## Validation -/

def isPositive (x : F32) : Bool := x.isFinite && F32.lt 0 x

/-- A risk curve breaks 14 R386. -/
def riskBad (bs : List Byte) : Bool :=
  bs.length % 8 != 0 || !ascending ((riskPoints bs).map (·.1))
  || (List.range (bs.length / 8)).any (fun i => bits (leAt bs (8 * i) 8) 31 8 != 0)

/-- A detector's parameters break 14 R383. -/
def spikeBad (w : Nat) : Bool :=
  let a : F32 := BitVec.ofNat 32 (bits w 127 96)
  !(isPositive a && !F32.lt f32One a) || !isPositive (BitVec.ofNat 32 (bits w 95 64)) || !isPositive (BitVec.ofNat 32 (bits w 63 32))

/-- The stack regions of archive slots in the tier (10 R279, R303). -/
def archiveRange (s : State) (e : EngineId) (slot : Nat) : Nat × Nat := (Archive.base s e slot, 4096 * reg s e regArchivePanes)

/-- Cold panes and ledgers of every engine, by tier offset. -/
def coldRanges (s : State) (e : EngineId) : List (Nat × Nat) :=
  match mapOf s e with
  | none => []
  | some m => (m.windows.filter (fun w => !w.isHot)).flatMap (fun w =>
      [(w.base * 4096, w.length * 4096), (w.ledger * 4096, 8 * w.length)])

/-- An archive slot leaves the tier or meets a cold window (10 R303). -/
def archiveOut (c : State) (e : EngineId) (i : Nat) : Bool :=
  let r := archiveRange c e i
  r.2 != 0 && (tierSize c < r.1 + r.2 || (coldRanges c e).any (overlap r))

/-- A tap range lies inside a coded window (11 R309). -/
def tapBad (c : State) (e : EngineId) (i : Nat) : Bool :=
  let v := regNth c e regTap i
  bit v 63 && (myWindows c e).any (fun w => w.isHot && overlap (bits v 47 24, bits v 23 0) (w.base, w.length))

/-- What the audit ring and the drill region must stay clear of (11 R329, 14 R388). -/
def snapRegions (c : State) (e : EngineId) : List (Nat × Nat) := fixedRegions c e ++ [stagingRange c e, shadowRange c e]

/-- What the step ring must stay clear of (06 R188). -/
def ringOthers (c : State) (e : EngineId) : List (Nat × Nat) := codedRanges c e ++ accAll c e ++ [descRange c e]

/-- The area that a gathered or repaired pane needs only where the engine has a cold window. -/
def coldAreas (c : State) (e : EngineId) : List (Nat × Nat) :=
  codedRanges c e ++ accAll c e ++ [stepRing c e, deltaGather c e, descRange c e]

/-- The number of the first failed check of a generation received through *MAP_STAGE* (03 R94, R95, 09 R248); 0 where all pass. -/
def stageCheck (s : State) (e : EngineId) (bs : List Byte) : Nat :=
  let (n, m) := mapCheck s e true bs
  if 0 < n && n < 7 then n
  else match mapOf s e with
    | none => 7
    | some old =>
      let ids := old.members.zip m.members
      let spare := fun (x : StripeMap) (chip : Nat) => x.spares.find? (fun p => p.chip == chip)
      let badSwap := fun (p : Member × Member) => p.1.chip != p.2.chip &&
        (((spare old p.2.chip).map (·.state)) != some 4 || ((spare m p.2.chip).map (·.state)) != some 5
          || (m.members.map (·.chip)).contains p.1.chip)
      let badMove := fun (p : Member × Member) =>
        (p.1.state != p.2.state || p.1.chip != p.2.chip) && !((p.1.state == 0 && (p.2.state == 1 || p.2.state == 2)) || (p.1.state == 1 && (p.2.state == 1 || p.2.state == 2))
          || (p.1.state == 2 && p.2.state == 1))
      let revived := (old.spares.zip m.spares).any (fun p => p.1.state == 5 && p.2.state == 4)
      if m.gen != old.gen + 1 || !sameJobMap old m || ids.any badSwap || ids.any badMove || revived then 7 else n

/-- Validate a group's shadow (13 R366): against the rules of its members, the committed values of every other group, and the
engine's state. -/
def validate (s : State) (sc : Scope) (g : Nat) : Option Reject :=
  let t := storeOf s sc
  let c := modStore s sc (fun t => t.swap g)
  match sc with
  | none =>
    if g == 9 then
      firstBroken ((List.range 6).map (fun i => (riskBad (blobIn t.shadowBlobs regRiskCurve.1 (regRiskCurve.2 + i)),
          (regRiskCurve.1, regRiskCurve.2 + i)))
        ++ (List.range 2).map (fun d => (spikeBad (regIn (isSix s) t.shadow regSpikeParams.1 regSpikeParams.2 d), regSpikeParams)))
    else if g == 12 then
      firstBroken [(!keyValid ((List.range 32).map (fun i =>
        BitVec.ofNat 8 (regIn (isSix s) t.shadow regServiceKey.1 regServiceKey.2 i))), regServiceKey)]
    else none
  | some e =>
    let late := lateChanges s c e g
    match g with
    | 0 =>
      let fold := reg c e regFoldFacets
      let n := ((List.range 8).filter (bit fold)).length
      let others := codedRanges c e ++ accAll c e ++ [stepRing c e, descRange c e]
      firstBroken (late ++
        [(n == 0 || 4 < n || (List.range 8).any (fun f => bit fold f && !bit (facetMask s) f), regFoldFacets),
         (clashes (descRange c e) (codedRanges c e), regDescBase),
         (clashes (deltaGather c e) others, regDeltaGatherBase),
         (listedSpare c e && clashes (bitmapRange c e) (bitmapOthers c e), regRebuildMapBase)])
    | 2 =>
      if !armed s e then some { index := regMapCommit.1, sub := regMapCommit.2, check := 0, reason := 0x11 }
      else match (s.eng e).dict.stagedMap with
        | none => some { index := regMapStage.1, sub := regMapStage.2, check := 7, reason := 0x60 }
        | some (_, bs) =>
          let n := stageCheck s e bs
          if n == 0 then none else some { index := regMapStage.1, sub := regMapStage.2, check := n, reason := 0x60 }
    | 3 =>
      let moved := t.changed (isSix s) 3
      firstBroken (late
        ++ (List.range 16).map (fun p => (dirBad c e p, (regProgramDir.1, regProgramDir.2 + p)))
        ++ (List.range 32).map (fun i => (curveBad (blobIn t.shadowBlobs regCurve.1 (regCurve.2 + i)), (regCurve.1, regCurve.2 + i)))
        ++ [(clashes (stepRing c e) (ringOthers c e), regStepRingBase),
            (moved.any (fun k => k.1 == regProgramDir.1) && anyLive s e, regProgramDir),
            (moved.any (fun k => k.1 == regUcodeTable.1) && anyLive s e, regUcodeTable)])
    | 4 =>
      firstBroken (late ++
        [(clashes (accRegion c e) (codedRanges c e ++ [descRange c e]), regAccRegionBase),
         (clashes (accRecords c e) (accRegion c e :: codedRanges c e ++ [descRange c e]), regAccRecordBase)])
    | 5 =>
      firstBroken (late ++
        [(clashes (auditRange c e) (snapRegions c e), regAuditRingBase)]
        ++ (List.range 4).map (fun i => (tapBad c e i, (regTap.1, regTap.2 + i))))
    | 6 =>
      let valid := validSlots c e
      firstBroken (late ++
        [(windowNotState c e regTierDirWindow || dirShort c e, regTierDirWindow), (windowNotState c e regPoolWindow, regPoolWindow),
         (clashes (repairPane c e) (coldAreas c e), regColdRepairBase),
         (clashes (coldGather c e) (coldAreas c e), regColdGatherBase),
         (valid.any (entryBad s c e) || (validSlots s e).any (removalBad s c e)
           || homesMeet (valid.map (fun o => homeOf (resEntry c e o)))
           || !disjoint (valid.map (fun o => ringOf (resEntry c e o))), regResidency)])
    | 7 =>
      firstBroken (late ++
        [(clashes (stagingRange c e) (fixedRegions c e), regSnapStageBase),
         (clashes (shadowRange c e) (fixedRegions c e), regShadowBase),
         (archiveOut c e 0, regArchiveBase0),
         (archiveOut c e 1 || overlap (archiveRange c e 0) (archiveRange c e 1), regArchiveBase1)])
    | 10 =>
      firstBroken (late ++
        [(clashes (drillRange c e) (snapRegions c e), regDrillRegionBase),
         (reg c e regDrillPeriod != 0 && reg c e regDrillRegionPanes == 0, regDrillPeriod)])
    | _ => none

/-! ## Swaps, commits, discards (13 R364, R366-R369) -/

/-- CONFIG_APPLIED, CONFIG_REJECTED, CONFIG_ABANDONED (14 R376). -/
def configRecord (s : State) (sc : Scope) (code sev args : Nat) : State :=
  match sc with
  | some e => raise s e code sev args
  | none => raiseGroup s code sev args

/-- What the engine does with the new values of its group: the fold matrix (04 R120) and the update digest and the configuration
that still governs the steps up to C + 1 (06 R188). -/
def afterSwap (s t : State) (e : EngineId) (g : Nat) : State :=
  if g == 0 then (if reg s e regFoldFacets != reg t e regFoldFacets then fillFold t e else t)
  else if g == 3 then
    let old : OldUpdate := { limit := (s.eng e).job.committed + 1, regs := (s.eng e).dict.regs, blobs := (s.eng e).dict.blobs }
    (writeTables t e).modDict e (fun d => { d with
      digest := blake3 (updateContent (isSix s) d.regs d.blobs)
      oldUpdate := if armed s e then some old else none })
  else t

/-- The group's shadow becomes its committed copy. -/
def applyGroup (s : State) (sc : Scope) (g : Nat) : State :=
  let v := groupStat s sc g
  let t := setStat (modStore s sc (fun t => t.swap g)) sc g { v with mode := .clean, applied := (v.applied + 1) % 2 ^ 32 }
  let t := match sc with
    | some e => afterSwap s t e g
    | none => t
  configRecord t sc evConfigApplied 0 g

/-- A rejection at the safe point: REJECTED, with its record. -/
def rejectGroup (s : State) (sc : Scope) (g : Nat) (r : Reject) : State :=
  let v := groupStat s sc g
  let s := setStat s sc g { v with mode := .rejected, reason := r.reason, check := r.check }
  configRecord s sc evConfigRejected 2 (put g 8 0 + put (rejectData (scopeId sc) r) 64 8)

/-- A waiting group has reached its safe point: it is validated again and swapped, or rejected (13 R366). -/
def reachSafePoint (s : State) (sc : Scope) (g : Nat) : State :=
  if (groupStat s sc g).mode != .waiting then s
  else match validate s sc g with
    | none => applyGroup s sc g
    | some r => rejectGroup s sc g r

/-- No job is armed on the engine; for a group-scoped group, on no engine. -/
def jobFree (s : State) : Scope → Bool
  | some e => !armed s e
  | none => !allEngines.any (armed s)

/-- The safe point of a group has been reached at the write of its commit (13 R367). -/
def atOnce (s : State) (sc : Scope) (g : Nat) : Bool :=
  jobFree s sc || g == 12
  || (g == 0 && ((storeOf s sc).changed (isSix s) 0).all (fun k => k.1 == regStreamFacet.1))

/-- A validated shadow is committed: it waits for its safe point or is swapped. -/
def enterWait (s : State) (sc : Scope) (g : Nat) : State :=
  let v := groupStat s sc g
  let s := setStat s sc g { v with mode := .waiting, abandoned := false }
  if atOnce s sc g && g != 2 then applyGroup s sc g else s

/-- The state after a commit that fails validation at the write. -/
def noteReject (s : State) (sc : Scope) (g : Nat) (r : Reject) : State :=
  let v := groupStat s sc g
  setStat s sc g { v with mode := if v.mode == .clean then .clean else .rejected, reason := r.reason, check := r.check }

/-- Discard a group's shadow (13 R364); a staged map goes with it. -/
def discardGroup (s : State) (sc : Scope) (g : Nat) : State :=
  let s := modStore s sc (fun t => t.discard g)
  let s := match sc with
    | some e => if g == 2 then s.modDict e (fun d => { d with stagedMap := none }) else s
    | none => s
  setStat s sc g { groupStat s sc g with mode := .clean }

/-- A reset loses the shadows; a waiting commit is abandoned (13 R366). -/
def abandonGroups (s : State) (sc : Scope) : State :=
  (List.range 13).foldl (fun s g =>
    if groupShared g != sc.isNone then s
    else match (groupStat s sc g).mode with
      | .clean => s
      | .waiting =>
        let s := discardGroup s sc g
        let s := setStat s sc g { groupStat s sc g with abandoned := true }
        configRecord s sc evConfigAbandoned 1 g
      | _ => discardGroup s sc g) s

/-- The groups whose safe point is a step boundary, in ascending order (13 R367, R368). -/
def stepGroups : Scope → List Nat
  | some _ => [0, 3, 4, 5, 6, 7, 8, 10]
  | none => [9, 11]

/-- A step boundary (13 R368). -/
def stepBoundary (s : State) (sc : Scope) : State := (stepGroups sc).foldl (fun s g => reachSafePoint s sc g) s

end Sys2Proof.Machine
end

