-- ==== Sys2Proof/Machine/JobCtl.lean ====
section
/-!
DEFINITION. The life of a job in an engine: the job blob, arming, the end of a job, step-ring export and import, the commit of a
map generation and the enrolment of a spare (03 R100, R104, 05 R141, 09 R248-R258, R272-R276, 13 R364).
-/

namespace Sys2Proof.Machine

open Sys2Proof

/-! ## Answers of the dictionary port (01 R43, 13 R370) -/

/-- What a transaction is answered. -/
structure Ans where
  code    : Nat
  why     : Reject
  data    : List Byte
  segment : Nat
deriving DecidableEq, Repr

def Ans.done : Ans := { code := 0, why := { index := 0, sub := 0, check := 0, reason := 0 }, data := [], segment := 0 }
def Ans.refuse (code : Nat) (r : Nat × Nat) : Ans :=
  { code := code, why := { index := r.1, sub := r.2, check := 0, reason := 0 }, data := [], segment := 0 }
def Ans.reject (r : Nat × Nat) (check reason : Nat) : Ans :=
  { code := 6, why := { index := r.1, sub := r.2, check := check, reason := reason }, data := [], segment := 0 }
def Ans.ofReject (r : Reject) : Ans := { code := 6, why := r, data := [], segment := 0 }

/-! ## Bring-up reports (15 R408) -/

def reportWord (stage result form unit detail : Nat) : BitVec 32 :=
  BitVec.ofNat 32 (put stage 4 28 + put result 2 26 + put form 2 24 + put unit 8 16 + put detail 16 0)

/-- Write a stage's report; *LAST_STAGE* names the highest stage that passed. -/
def report (s : State) (e : EngineId) (stage result unit detail : Nat) : State :=
  s.modBring e (fun b => { b with
    report := AList.set b.report stage (reportWord stage result (b2n b.form1) unit detail)
    lastStage := if result == 1 || result == 2 then max b.lastStage stage else b.lastStage })

/-! ## The job blob (09 R272, R274) -/

/-- The header and parts of a job blob, with its MAGIC. -/
def parseBlob (bs : List Byte) : Nat × JobBlob :=
  let h := leAt bs 0 64
  (bits h 511 480,
   { jobGen := bits h 479 448, rev := bits h 447 432, initialStep := bits h 410 379, seed := BitVec.ofNat 64 (bits h 378 315),
     childTimeout := bits h 314 299, digest := slice bs 0 32, program := slice bs 64 32, map := (parseMap (bs.drop 96)).1,
     mapBytes := bs.drop 96 })

/-- A generation or revision lies before a staged one. -/
def blobOlder (b old : JobBlob) : Bool := b.jobGen < old.jobGen || (b.jobGen == old.jobGen && b.rev < old.rev)

/-- A SILVER runs, or a generation is staged on an engine that is not armed (10 R290). -/
def silverBusy (s : State) (e : EngineId) : Bool :=
  match (s.eng e).snap.snap with
  | none => false
  | some g => g.running || !armed s e

/-- Check and stage a complete job blob (09 R274). The first failed check of 03 R94 is reported. -/
def stageBlob (s : State) (e : EngineId) (bs : List Byte) : State × Ans :=
  let (magic, b) := parseBlob bs
  if armed s e then (s, .reject regJobBlob 0 0x12)
  else if magic != 0x435a4a42 || blake3 (bs.drop 64) != b.digest || bs.length < 96 then (s, .reject regJobBlob 0 0x60)
  else
    let n := (mapCheck s e false b.mapBytes).1
    if n != 0 then (raise s e evMapRefused 2 n, .reject regJobBlob n 0x60)
    else match (s.eng e).job.staged with
      | none => (s.modJob e (fun j => { j with staged := some b }), .done)
      | some old =>
        if blobOlder b old then (s, .reject regJobBlob 0 0x12)
        else if b.jobGen == old.jobGen && b.rev == old.rev then
          (s, if b.digest == old.digest then .done else .reject regJobBlob 0 0x60)
        else (s.modJob e (fun j => { j with staged := some b }), .done)

/-! ## Arming (09 R276) -/

/-- The eight window entries of the address filter: hot windows of this engine (01 R22). -/
def filterOf (m : StripeMap) (e : EngineId) : List (Nat × Nat × Nat) :=
  (m.windows.filter (fun w => w.engine == e.val && w.isHot)).map (fun w => (w.number, w.base, w.length))

/-- Zero the mask region and the presence image or bitmap of every window (03 R100). -/
def clearWindows (s : State) (e : EngineId) : State :=
  (myWindows s e).foldl (fun s w =>
    let s := zeroHbm s e (w.mask * 4096) (8 * w.length)
    zeroHbm s e (w.presence * 4096) ((w.length + 7) / 8)) (s.modMem e (fun m => { m with presence := [] }))

/-- Read the two manifests, at arm and after each SILVER (10 R303). -/
def readManifests (s : State) (e : EngineId) : State :=
  if reg s e regArchivePanes == 0 then s.modSnap e (fun x => { x with manifests := [] })
  else s.modSnap e (fun x => { x with manifests := [(0, Archive.read s e 0), (1, Archive.read s e 1)] })

/-- The slot of this chip in a map, 0xFF on a spare that is not enrolled. -/
def slotIn (s : State) (m : StripeMap) : Nat := ((m.place s.group.lc.chipId).map (·.2)).getD 0xff

/-- What an armed job's geometry and windows must not break (05 R141, 06 R188, 07 R220, 08 R224, R225, R243, 09 R259, 10 R303, 11 R309, R329,
14 R388; DEDUCED, notes/assumptions/41.md). -/
def armBroken (c : State) (e : EngineId) : Bool :=
  let cold := (myWindows c e).any (fun w => !w.isHot)
  let areas := codedRanges c e ++ accAll c e ++ [stepRing c e, descRange c e]
  clashes (deltaGather c e) areas
  || clashes (accRegion c e) (codedRanges c e ++ [descRange c e])
  || clashes (accRecords c e) (accRegion c e :: codedRanges c e ++ [descRange c e])
  || (cold && (clashes (coldGather c e) (coldAreas c e) || clashes (repairPane c e) (coldAreas c e)))
  || (listedSpare c e && clashes (bitmapRange c e) (bitmapOthers c e))
  || windowNotState c e regTierDirWindow || windowNotState c e regPoolWindow || dirShort c e
  || (validSlots c e).any (entryLeaves c e)
  || clashes (stepRing c e) (ringOthers c e)
  || clashes (stagingRange c e) (fixedRegions c e) || clashes (shadowRange c e) (fixedRegions c e)
  || archiveOut c e 0 || archiveOut c e 1 || (List.range 4).any (tapBad c e)
  || (reg c e regAuditMode != 0 && clashes (auditRange c e) (snapRegions c e)) || clashes (drillRange c e) (snapRegions c e)

/-- The engine with the job in force and nothing else done. -/
def withJob (s : State) (e : EngineId) (b : JobBlob) : State :=
  s.modJob e (fun j => { j with
    job := some { jobId := b.map.jobId, jobGen := b.jobGen, rev := b.rev, seed := b.seed, child := b.childTimeout, map := b.map,
                  mapBytes := b.mapBytes }
    staged := none, committed := b.initialStep, memberSlot := slotIn s b.map })

/-- What the coordinator does when the first engine of the group arms (14 R383, R387), and the stub, whose records are per step of a
job (01 R58). -/
def armGroup (s : State) (c : Nat) : State :=
  let s := s.modHealth (fun h => { h with
    detectors := Vector.replicate 2 { mu := 0, nu := 0, c := 0 }, lastStep := 0, stepFlags := [], skipped := [], armedReq := true,
    lastReq := none, above := false, apertured := false })
  let s := forEngines allEngines (fun s e => s.modIss e (fun q => { q with absentSeen := [] })) s
  s.modCoord (fun x => { x with stepC := c, readyOut := [], snapOut := [] })

/-- Forget flows, replay buffer and gather slots: every flow starts anew. -/
def freshFabric (f : Fabric) : Fabric :=
  { f with jobs := [], requests := [], txFlows := [], rxFlows := [], dests := [], held := [], gathers := [], complete := [],
           foldLog := [], mustCommit := none }

/-- Arm the engine in a staged job (09 R276): 03 R100, 05 R141, 07 R190, 04 R120, 11 R332, and stage 6. -/
def armEngine (s : State) (e : EngineId) (b : JobBlob) : State :=
  let first := !allEngines.any (armed s)
  let s := withJob s e b
  let s := if first then armGroup s b.initialStep else s
  let s := s.modJob e (fun j => { j with
    ending := .no, slots := [], openSeq := 1, accCache := [], recBuf := [], norms := [], seals := [], decided := []
    abortFrom := [] })
  let s := s.modFab e freshFabric
  let s := s.modReb e (fun _ => { Rebuild.init with firstCommit := true })
  let s := s.modTier e (fun _ => TierSt.init)
  let s := s.modSnap e (fun x => { x with workRun := false, topSweep := 0, restoreGen := none })
  let s := s.modLou e (fun l => { l with nondetRel := 0, nondetNon := 0, nondetFlag := false, erasures := [], scrub := (0, 0) })
  let s := s.modIss e (fun q => { q with matrices := [] })
  let s := s.modDict e (fun d => { d with
    groups := d.groups.map (fun g => (g.1, { g.2 with applied := 0 })), oldUpdate := none })
  let s := clearWindows s e
  let s := zeroHbm s e (accRecords s e).1 (accRecords s e).2
  let s := s.modMem e (fun m => { m with filter := filterOf b.map e, privateOn := reg s e regAccRegionSize != 0 })
  let s := readManifests (fillFold (writeTables s e) e) e
  report s e 6 1 0xff b.map.gen.toNat

/-- *JOB_ARM* (09 R276): JOB_GEN, BLOB_REV, BLOB_DIGEST of the staged blob. -/
def armJob (s : State) (e : EngineId) (bs : List Byte) : State × Ans :=
  if armed s e then (s, .reject regJobArm 0 0x12)
  else match (s.eng e).job.staged with
    | none => (s, .reject regJobArm 0 0x12)
    | some b =>
      if leAt bs 0 4 != b.jobGen || leAt bs 4 2 != b.rev || slice bs 6 32 != b.digest then (s, .reject regJobArm 0 0x12)
      else if updateDigest s e != b.program || armBroken (withJob s e b) e then (s, .reject regJobArm 0 0x60)
      else (armEngine s e b, .done)

/-! ## The end of a job (03 R104, 10 R290, 13 R364) -/

/-- In shadow mode every pane that a SILVER has not yet reached is set aside before the presence map is cleared. -/
def setAsideAll (s : State) (e : EngineId) : State :=
  match (s.eng e).snap.snap with
  | none => s
  | some g =>
    if !g.shadow then s
    else (myWindows s e).foldl (fun s w =>
      if w.isHot && w.cls == 0 then (List.range w.length).foldl (fun s r => if rowPresent s e w r then beforeWrite s e w r else s) s
      else s) s

/-- A write held at a filter that has lost its entries goes to the stack (01 R22). -/
def passWrites (s : State) (e : EngineId) : State :=
  let ws := (s.eng e).mem.writes
  ws.foldl (fun s x => agentDone (plainRun x.byteEn s e x.granule x.data) e x.granule true 0 []) (s.modMem e (fun m => { m with writes := [] }))

/-- End the armed job: filter entries go, the presence map is cleared, HBM is left in place. A drill that runs is aborted
(notes/assumptions/43.md, DESIGN CHOICE). -/
def endJob (s : State) (e : EngineId) : State :=
  let s := setAsideAll (stopDrill s e) e
  let s := passWrites (s.modMem e (fun m => { m with filter := [], privateOn := false, presence := [] })) e
  let s := s.modJob e (fun j => { j with
    job := none, ending := .no, memberSlot := 0xff, slots := [], accCache := [], recBuf := [], abortFrom := [] })
  s.modReb e (fun _ => Rebuild.init)

/-- The job ends once its step boundary has come and no coded write is held in the path (01 R21). -/
def tryEndJob (s : State) (e : EngineId) : State :=
  if (s.eng e).job.ending == .due && !(s.eng e).mem.writes.any (·.accepted) then endJob s e else s

/-! ## The step ring (09 R257) -/

def ringExport (s : State) (e : EngineId) : List Byte := hbm s e (stepRing s e).1 262144

/-- A record of an imported ring: unused, or of the armed job with a STEP that agrees with its position. -/
def ringRecOk (s : State) (e : EngineId) (i : Nat) (bs : List Byte) : Bool :=
  let r := parseStep bs
  bs.all (· == 0) || (r.jobId == (jobIdOf s e).toNat && r.step % 1024 == i && r.step ≤ (s.eng e).job.committed + 1)

/-- Decisions of uncommitted steps, read back from the step ring (07 R208, R210). -/
def decisionsOf (s : State) (e : EngineId) : AList Nat Nat :=
  let c := (s.eng e).job.committed
  [c + 1, c + 2].filterMap (fun t => (stepBytes s e t).map (fun bs => (t, (parseStep bs).decision)))

/-- *RING_IMPORT* (09 R257): only while no SWEEP or APPLYPEND has run since enrolment. -/
def ringImport (s : State) (e : EngineId) (bs : List Byte) : State × Ans :=
  let recs := (List.range ((bs.length + 255) / 256)).map (fun i => (i, slice bs (256 * i) 256))
  if (s.eng e).reb.enrolled && !(s.eng e).reb.sweptSince && recs.all (fun p => ringRecOk s e p.1 p.2) then
    let s := setHbm s e (stepRing s e).1 bs
    (s.modJob e (fun j => { j with decided := decisionsOf s e }), .done)
  else (s, .reject regRingImport 0 0x60)

/-! ## Map generations (09 R248-R258) -/

/-- Validate and stage a generation (09 R248). One that fails is not staged. -/
def stageMap (s : State) (e : EngineId) (bs : List Byte) : State × Ans :=
  let n := stageCheck s e bs
  if n != 0 then
    let s := raise s e evMapRefused 2 n
    let v := groupStat s (some e) 2
    (setStat s (some e) 2 { v with reason := 0x60, check := n }, .reject regMapStage n 0x60)
  else
    let s := s.modDict e (fun d => { d with stagedMap := some ((parseMap bs).1, bs) })
    (s, .done)

/-- Enrol the spare's engine in slot `sl` (09 R258). Whether a step was being swept when the generation was committed is not told to the
spare: a free value, until a QUIESCE says so (07 R212, notes/assumptions/58.md). -/
def enrol (s : State) (e : EngineId) (sl : Nat) : State :=
  let c := reg s e regEnrolStep
  let s := stopDrill s e
  let s := s.modJob e (fun j => { j with memberSlot := sl, committed := c })
  let s := s.modCoord (fun x => { x with stepC := c })
  let s := zeroHbm s e (bitmapRange s e).1 (bitmapRange s e).2
  let open_ := ((myWindows s e).filter (fun w => w.cls != 1)).map (fun w =>
    (w.number, ({ window := w.number, first := 0, last := w.length - 1, local_ := false } : DegradedRange)))
  let s := s.modReb e (fun r => { r with
    ranges := open_ ++ r.ranges.filter (fun p => 16 ≤ p.1)
    enrolled := true, swept := Config.sweptAt (genOf s e).toNat, firstCommit := false, sweptSince := false, doneRaised := false })
  raise s e evEnrolled 0 (put sl 6 0 + put c 32 16)

/-- Chips that held a slot in the old map and hold none in the new one (09 R253). -/
def removedChips (old m : StripeMap) : List Nat :=
  let now := (m.members.filter (·.state != 2)).map (·.chip)
  ((old.members.filter (·.state != 2)).map (·.chip)).filter (fun c => !now.contains c)

/-- Requests toward chips that a generation removes: chunks of a pane no longer await them, others end with 0x10 in the
operation that sent them (09 R253). -/
def dropChips (s : State) (e : EngineId) (chips : List Nat) : State :=
  let gone := fun (c : Nat) => chips.contains c
  let hit := (s.eng e).fab.requests.filter (fun r => r.awaited.any (fun h => gone h.2))
  let s := hit.foldl (fun s r =>
    if r.column.isSome then s
    else match r.owner with
      | .op id => addCause s e id 0x10
      | .fetch id => modFetch s e id (fun f => { f with refused := some 0x10 })
      | .install id => sourceRefused s e id r.chunk.dstChip.toNat
      | _ => s) s
  let s := s.modFab e (fun f => { f with
    requests := f.requests.map (fun r => { r with awaited := r.awaited.filter (fun h => !gone h.2) }) })
  let s := dropReqs s e (fun r => r.awaited.isEmpty)
  ((s.eng e).fab.jobs.map (·.id)).foldl (fun s id => tryFinish s e id) s

/-- Slots of this engine's set that a generation takes from the chip that held them. -/
def changedSlots (s : State) (e : EngineId) (m : StripeMap) : List Nat :=
  match mySet s e with
  | none => []
  | some t => match m.sets.find? (fun x => x.id == t.id) with
    | none => []
    | some u => (t.members.zip u.members).zipIdx.filterMap (fun p =>
        if p.1.1.chip != p.1.2.chip || (p.1.2.state == 2 && p.1.1.state != 2) then some p.2 else none)

/-- What ends with the members of those slots: incomplete gather slots (07 R194), freezes and chain parts of their origins (09
R263), and chains that read from them: the other sources are released, and they start again (09 R266). -/
def leaveSlots (s : State) (e : EngineId) (slots : List Nat) : State :=
  let s := s.modFab e (fun f => { f with gathers := f.gathers.filter (fun g => !slots.contains g.srcSlot) })
  let s := s.modReb e (fun r => { r with
    freezes := r.freezes.filter (fun f => !slots.contains f.slot)
    parts := r.parts.filter (fun p => !(p.hop < 0x20 && slots.contains p.origin)) })
  ((s.eng e).reb.installs.filter (fun n => n.phase == .reading && n.sources.any (fun x => slots.contains x.slot))).foldl
    (fun s n => restartFrom s e n ((n.sources.filter (fun x => slots.contains x.slot)).map (·.column)) 0) s

/-- The commit of a generation at the map safe point (09 R249): the map, the flows of the new epoch, requests held for it, and
enrolment. Requests that this engine holds for the generation are performed by what follows. -/
def commitMap (s : State) (e : EngineId) (m : StripeMap) (bs : List Byte) : State :=
  match (s.eng e).job.job with
  | none => s
  | some j =>
    let slots := changedSlots s e m
    let s := s.modJob e (fun x => { x with job := some { j with map := m, mapBytes := bs } })
    let s := s.modFab e (fun f => { f with
      txFlows := [], rxFlows := f.rxFlows.filter (fun v => v.gen == j.map.gen || v.gen == m.gen)
      mustCommit := none })
    let s := leaveSlots (dropChips s e (removedChips j.map m)) e slots
    let waiting := (s.eng e).fab.requests.filter (fun r => match r.hold with | .newGen g => g == m.gen | _ => false)
    let s := waiting.foldl (fun s r => if (s.eng e).fab.requests.any (· == r) then reissue s e r else s) s
    let s := bump s e cntGenCommits 1
    let sl := slotIn s m
    if sl != 0xff && (s.eng e).job.memberSlot == 0xff then enrol s e sl else s

end Sys2Proof.Machine
end

