-- ==== Sys2Proof/Machine/Commit.lean ====
section
/-!
DEFINITION. The barrier of a step: COMMIT in its three modes, readiness and release, the abort of uncommitted steps, and the map
safe point (07 R203-R210, 09 R249, R254, 11 R331, 13 R368).
-/

namespace Sys2Proof.Machine

open Sys2Proof

/-! ## Abort (07 R209) -/

/-- Rewrite one row of a GRADIENT window: the mask word and the STEP_TAG of the steps aborted become zero. A mask or ledger granule
that cannot be read makes its eight rows erasures. -/
def scanRow (s : State) (e : EngineId) (w : Window) (steps : List Nat) (row : Nat) : State :=
  if !rowPresent s e w row || inLocalRange s e w.number row then s
  else if granuleBad s e (w.maskAt row / 64) || granuleBad s e (w.ledgerAt row / 64) then
    let s := if granuleBad s e (w.maskAt row / 64) then storeMem s e 0 none (64 * (w.maskAt row / 64)) (zeros 64) else s
    openErasure s e w ((List.range 8).map (fun i => row / 8 * 8 + i)) (w.ledgerAt row / 64)
  else
    let s := noteMem (noteMem s e 0 none false (w.maskAt row) 8) e 0 none false (w.ledgerAt row) 8
    let s := if steps.contains (maskWord s e w row).1 then noteMem (setMask s e w row 0 0) e 0 none true (w.maskAt row) 8 else s
    let l := ledgerOf s e w row
    if steps.contains l.stepTag then storeLedger s e 0 w row { l with stepTag := 0 } else s

/-- Scan every GRADIENT window of the engine. -/
def abortScan (s : State) (e : EngineId) (steps : List Nat) : State :=
  let ws := (myWindows s e).filter (·.cls == 1)
  let s := ws.foldl (fun s w => (List.range w.length).foldl (fun s r => scanRow s e w steps r) s) s
  let wait := (s.eng e).reb.ranges.any (fun p => p.2.local_ && ws.any (·.number == p.2.window))
  s.modJob e (fun j => { j with abortFrom := if wait then steps else [] })

/-- Abort steps: their slots, seals, norm registers and step records, and the scan. -/
def abortSteps (s : State) (e : EngineId) (steps : List Nat) : State :=
  let slots := (List.range 64).filter (fun g => (accSlot s e g).state != .free && steps.contains (accSlot s e g).step)
  let s := slots.foldl (fun s g => settleClosing (freeSlot s e g) e g) s
  let s := steps.foldl (fun s t => if (stepBytes s e t).isSome then
    noteMem (zeroHbm s e (stepRecAt s e t) 256) e 0 none true (stepRecAt s e t) 256 else s) s
  let s := s.modJob e (fun j => { j with
    seals := j.seals.filter (fun x => !steps.contains x.step), norms := j.norms.filter (fun x => !steps.contains x.step)
    decided := j.decided.filter (fun x => !steps.contains x.1) })
  abortScan (bump s e cntAborts 1) e steps

/-- The uncommitted steps of which this engine may hold anything: C + 1, C + 2, and C + 3, for which a member that has seen the next
release may have sent gradient parity. -/
def openSteps (s : State) (e : EngineId) : List Nat := (List.range 3).map (fun i => (s.eng e).job.committed + 1 + i)

/-- Abort every uncommitted step from `step` on (07 R209). -/
def abortStep (s : State) (e : EngineId) (step : Nat) : State := abortSteps s e ((openSteps s e).filter (step ≤ ·))

/-- Decided APPLY or CLIP on this engine. -/
def decidedToApply (s : State) (e : EngineId) (step : Nat) : Bool :=
  match AList.get? (s.eng e).job.decided step with
  | some d => d != 2
  | none => false

/-- An engine reset aborts the uncommitted steps that the engine has not decided with APPLY or CLIP (07 R210). -/
def abortUndecided (s : State) (e : EngineId) : State :=
  let steps := (openSteps s e).filter (fun t => !decidedToApply s e t)
  if steps.any (· ≤ (s.eng e).job.committed + 2) then abortSteps s e steps else s

/-! ## COMMIT at dispatch (07 R204) -/

/-- ABORT (07 R209). -/
def beginAbort (s : State) (e : EngineId) (i : RawInstr) (step : Nat) : State :=
  if step ≤ (s.eng e).job.committed then endNow s e i 1 0x01 0
  else if decidedToApply s e step then endNow s e i 1 0x60 5
  else
    let s := abortStep (s.modSnap e (fun x => { x with workRun := true })) e step
    if (s.eng e).job.abortFrom.isEmpty then endNow s e i 1 0x00 0 else launch s e i none 1 (.abort step)

/-- The conditions of 07 R204 in their order. -/
def beginCommit (s : State) (e : EngineId) (i : RawInstr) : State :=
  let step := i.f3 63 32
  let mode := i.f3 1 0
  let c := (s.eng e).job.committed
  if i.body.w1 != 0 || i.body.w2 != 0 || i.f3 31 2 != 0 then endNow s e i 1 0x60 4
  else if mode == 3 then endNow s e i 1 0x60 5
  else if s.stepValue.toNat != step then
    publish (raiseOn s e i evStepMismatch 3 0x60 (put s.stepValue.toNat 32 32 + put step 32 0)) e 0xf i 1 0x60 0 true
  else if mode == 1 then beginAbort s e i step
  else if mode == 0 && ((mapOf s e).map (fun m => m.members.any (·.state == 2))).getD false then endNow s e i 1 0x10 0
  else if c + 1 < step then endNow s e i 1 0x60 5
  else if !(mode == 0 && step ≤ c) && (stepBytes s e step).isNone then endNow s e i 1 0x60 5
  else if mode == 2 && step ≤ c then endNow s e i 1 0x01 0
  else
    let s := s.modSnap e (fun x => { x with workRun := true })
    let s := if mode == 2 && (s.eng e).reb.enrolled then s.modReb e (fun r => { r with swept := true }) else s
    launch s e i none 1 (.barrier step mode false 0)

/-- COMMIT with MODE 0. -/
def execCommit (i : EngineInstr) (s : State) : Out := .next (route noUnits beginCommit (rowInstr 0x31 i 3 0) s)

/-- COMMIT with MODE 1, ABORT. -/
def execCommitAbort (i : EngineInstr) (s : State) : Out := .next (route noUnits beginCommit (rowInstr 0x31 i 3 1) s)

/-- COMMIT with MODE 2, QUIESCE. -/
def execCommitQuiesce (i : EngineInstr) (s : State) : Out := .next (route noUnits beginCommit (rowInstr 0x31 i 3 2) s)

/-- A COMMIT at the head of a stream that waited for the counter's valid signal is dispatched (01 R51). -/
def commitAtHead (s : State) (e : EngineId) (st : Nat) : State :=
  match streamQueue s e st with
  | [] => s
  | i :: rest =>
    if i.op == 0x31 && !noRow i && canIssue s e i then
      drainDead 16 (dispatch noUnits beginCommit (setQueue s e st rest) e i) e st
    else drainDead 16 s e st

/-- The sequencers' step counter becomes valid at a value (01 R51). -/
def execStepCounterValid (value : BitVec 32) (s : State) : Out :=
  let s := { s with stepValue := value, stepValid := true }
  .next (forEngines (presentEngines s) (fun s e => (List.range 64).foldl (fun s st => commitAtHead s e st) s) s)

/-! ## Readiness (07 R205, R206) -/

/-- An operation is a SWEEP or an APPLYPEND of a step. -/
def sweepsStep (o : Op) (step : Nat) : Bool := (o.ins.op == 0x30 || o.ins.op == 0x3a) && o.ins.f3 63 32 == step

/-- No SWEEP or APPLYPEND of the step that was dispatched before an operation is left. -/
def sweepsDone (s : State) (e : EngineId) (id step : Nat) : Bool := !(s.eng e).iss.ops.any (fun o => o.id < id && sweepsStep o step)

/-- What a COMMIT's sweeps have left old on a spare is final once they have completed (07 R205, R215). -/
def pumpBarrier (s : State) (e : EngineId) (id step mode : Nat) : State :=
  if mode == 0 && (s.eng e).job.committed < step && sweepsDone s e id step then finishRecons s e else s

/-- The engine is ready for a COMMIT or QUIESCE of a step. -/
def readyFor (s : State) (e : EngineId) (id step mode : Nat) : Bool :=
  let g := s.eng e
  sweepsDone s e id step
  && !g.fab.jobs.any (fun j => j.slot && j.step == step)
  && !g.fab.requests.any (fun r => (r.chunk.k == kindDelta || r.chunk.k == kindGparity) && r.chunk.step.toNat == step)
  && !(mode == 0 && (!g.reb.recons.isEmpty || g.reb.installs.any (fun n => match n.purpose with | .reconcile _ t => t == step | _ => false)))

/-- An engine's ready COMMIT of a step and mode. -/
def readyBarrier (s : State) (e : EngineId) (step mode : Nat) : Option Op :=
  (s.eng e).iss.ops.find? (fun o => match o.work with
    | .barrier t m ready _ => ready && t == step && m == mode
    | _ => false)

/-- The coordinator reports the group ready once every present engine holds a ready COMMIT of one step and mode. -/
def reportGroup (s : State) (step mode : Nat) : State :=
  if (presentEngines s).all (fun e => (readyBarrier s e step mode).isSome) && !s.group.coord.readyOut.contains (step, mode) then
    s.modCoord (fun c => { c with readyOut := c.readyOut ++ [(step, mode)] })
  else s

/-- The oldest COMMIT or QUIESCE that has become ready is reported to the coordinator. -/
def commitReady (s : State) (e : EngineId) : State :=
  match (s.eng e).iss.ops.find? (fun o => match o.work with
      | .barrier t m ready _ => !ready && readyFor s e o.id t m
      | _ => false) with
  | none => s
  | some o => match o.work with
    | .barrier t m _ _ => reportGroup (setWork s e o.id (.barrier t m true s.time)) t m
    | _ => s

/-- COMMIT_READY: an engine becomes ready (07 R205). -/
def execCommitReady (e : EngineId) (s : State) : Out := .next (commitReady s e)

/-! ## Release (07 R203, R206, R208) -/

/-- The REGEN record of a released step (11 R331). -/
def regenRecord (s : State) (e : EngineId) (step : Nat) : State :=
  let steps := reg s e regAuditSteps
  match stepBytes s e step with
  | none => s
  | some r =>
    if bit (reg s e regAuditMode) 1 && steps != 0 then
      let v := put step 32 992 + put (jobIdOf s e).toNat 16 976 + put (genOf s e).toNat 16 960
        + put (nondetWords (s.eng e).lou).1 64 896 + put (leNat (updateDigest s e)) 256 256 + put (leNat (blake3 r)) 256 0
      storeMem s e 3 none ((reg s e regAuditRingBase + 128 * steps) * 4096 + 128 * (step % steps)) (leBytes v 128)
    else s

/-- A spare's first release since its enrolment: its GRADIENT windows count as rebuilt, and rows are served on demand from now
on (07 R212, 09 R261). -/
def firstRelease (s : State) (e : EngineId) : State :=
  if (s.eng e).reb.enrolled && !(s.eng e).reb.firstCommit then
    let s := ((myWindows s e).filter (·.cls == 1)).foldl (fun s w =>
      (List.range w.length).foldl (fun s r => setRebuildBit s e w.number r) s) s
    s.modReb e (fun r => { r with firstCommit := true, recons := [] })
  else s

/-- The staged groups of a step boundary, and a job's end that waits for one (13 R368). An aperture's copy holds them
(10 R285). -/
def engineBoundary (s : State) (e : EngineId) : State :=
  if copyRuns s e then s
  else
    let s := stepBoundary s (some e)
    if (s.eng e).job.ending == .no then s else tryEndJob (s.modJob e (fun j => { j with ending := .due })) e

/-- What the engine holds for a step ends with it: its norm register, seal-table entries and decision, and the update configuration
bound to it (06 R163, R188, 07 R206). -/
def clearStep (s : State) (e : EngineId) (step : Nat) : State :=
  let s := s.modJob e (fun j => { j with
    norms := j.norms.filter (·.step != step), seals := j.seals.filter (·.step != step), decided := j.decided.filter (·.1 != step) })
  s.modDict e (fun d => { d with oldUpdate := d.oldUpdate.filter (fun u => step < u.limit) })

/-- A group swapped at the release of a step held back governs the steps from the second after it on, as at any release of that step
(06 R188, 07 R208). -/
def bindHeld (s : State) (e : EngineId) (step : Nat) : State :=
  s.modDict e (fun d => { d with oldUpdate := d.oldUpdate.map (fun u => { u with limit := step + 1 }) })

/-- Steps 2 to 5 of 07 R206 for an engine that commits a step, and the abort of a step held back (R208). -/
def releaseStep (s : State) (e : EngineId) (o : Op) (step : Nat) (held : Bool) : State :=
  let s := clearStep (regenRecord s e step) e step
  let s := engineBoundary (firstRelease s e) e
  let s := finishOp (if held then bindHeld s e step else s) e o 0x00 0
  if held then abortStep s e step else s

/-- A release of MODE 0 is counted, with the time since the ready report (07, "Counters"). -/
def countRelease (s : State) (e : EngineId) (o : Op) : State :=
  match o.work with
  | .barrier _ _ _ since => setCounter (bump s e cntCommits 1) e cntBarrierLastNs (s.time - since).toNat
  | _ => s

/-- A step decided SKIP is held back under the SKIP_POLICY bound to it, HOLD (06 R188, 07 R208). -/
def heldBack (s : State) (e : EngineId) (step : Nat) : Bool :=
  AList.get? (s.eng e).job.decided step == some 2 && updReg s e step regSkipPolicy == 1

/-- The engines whose ready COMMIT of this step and mode is released. -/
def released (s : State) (step mode : Nat) : List EngineId :=
  (presentEngines s).filter (fun e => (readyBarrier s e step mode).isSome)

/-- MODE 2: the engines complete and nothing else changes. -/
def releaseQuiesce (s : State) (step : Nat) : State :=
  forEngines (released s step 2) (fun s e => match readyBarrier s e step 2 with
    | some o => finishOp s e o 0x00 0
    | none => s) s

/-- MODE 0: every engine sets C first; then the latch, the coordinator's groups, and the rest engine by engine. -/
def releaseCommit (s : State) (step : Nat) : State :=
  let late := (released s step 0).filter (fun e => step ≤ (s.eng e).job.committed)
  let go := (released s step 0).filter (fun e => (s.eng e).job.committed < step)
  let held := go.filter (fun e => heldBack s e step)
  let s := forEngines late (fun s e => match readyBarrier s e step 0 with
    | some o => finishOp (regenRecord (countRelease s e o) e step) e o 0x01 0
    | none => s) s
  let s := forEngines (go.filter (fun e => !held.contains e)) (fun s e => s.modJob e (fun j => { j with committed := step })) s
  if go.isEmpty then s
  else
    let s := if held.isEmpty then s.modCoord (fun c => { c with stepC := step }) else s
    let s := fireAtStep s step
    let s := forEngines go (fun s e => match readyBarrier s e step 0 with
      | some o => releaseStep (countRelease s e o) e o step (held.contains e)
      | none => s) s
    stepBoundary s none

/-- The release of a barrier reaches the group (07 R206). -/
def commitRelease (s : State) (step mode : Nat) : State :=
  let s := s.modCoord (fun c => { c with readyOut := c.readyOut.filter (· != (step, mode)) })
  if mode == 0 then releaseCommit s step else if mode == 2 then releaseQuiesce s step else s

/-- A ready COMMIT without release for COMMIT_TIMEOUT completes with 0x10 (07 R207). -/
def commitTimeout (s : State) (e : EngineId) : State :=
  match (s.eng e).iss.ops.find? (fun o => match o.work with
      | .barrier _ _ ready _ => ready
      | _ => false) with
  | none => s
  | some o => match o.work with
    | .barrier t m _ _ =>
      finishOp (s.modCoord (fun c => { c with readyOut := c.readyOut.filter (· != (t, m)) })) e o 0x10 0
    | _ => s

/-- COMMIT_TIMEOUT (07 R207). -/
def execCommitTimeout (e : EngineId) (s : State) : Out := .next (commitTimeout s e)

/-! ## The map safe point (09 R249) -/

/-- Every flow the engine sends is at a pane boundary, and no fold has been begun and not ended. A pane whose chunks may not go out
before the generation is committed leaves its flow at the boundary (09 R253, R254). -/
def mapSafe (s : State) (e : EngineId) : Bool :=
  !(s.eng e).fab.requests.any (fun r => r.hold == .unsent && r.column.isSome && !sendHeld s e r.chunk)
  && !tierHas s e (fun t => match t with | .fold _ _ _ => true | _ => false)

/-- The rows that the records of R198 name with this engine's slot as source: the holders whose parity differs from the encode are
re-encoded from the data panes. Which rows are named is a free value (09 R254, notes/assumptions/31.md). A row with a lost data column
has no encode of its data to compare with. -/
def reencodeNamed (s : State) (e : EngineId) : State :=
  (Config.namedRows e.val (genOf s e).toNat).foldl (fun s p => match windowRec s e p.1 with
    | some w =>
      let o := geo s e
      let whole := (List.range o.k).all (fun c => !bit (lostColumns s e p.2) c)
      if w.cls != 1 && p.2 < w.length && holdsData s e p.2 && whole then
        newInstall s e (.rowCheck none none true) w.number p.2 (columnHere s e p.2) 0 true
      else s
    | none => s) s

/-- Commit the staged generation; an engine that was reset within the job first aborts what it had not decided, settles its
residency words and re-encodes rows named in its holders' records (07 R210, 09 R254). -/
def commitStagedMap (s : State) (e : EngineId) : State :=
  match (s.eng e).dict.stagedMap with
  | none => applyGroup s (some e) 2
  | some (m, bs) =>
    let back := (s.eng e).fab.mustCommit.isSome
    let s := applyGroup s (some e) 2
    let s := s.modDict e (fun d => { d with stagedMap := none })
    let s := commitMap s e m bs
    if back then reencodeNamed (settleTransitions (abortUndecided s e) e) e else s

/-- A generation that waits at its safe point is validated again and committed. -/
def mapSafePoint (s : State) (e : EngineId) : State :=
  if (groupStat s (some e) 2).mode != .waiting || !mapSafe s e then s
  else match validate s (some e) 2 with
    | none => commitStagedMap s e
    | some r => rejectGroup s (some e) 2 r

/-- VC_ARBITRATION_ROUND: a waiting virtual-channel group swaps as a round starts (13 R367, 01 R29). -/
def execVcArbitrationRound (e : EngineId) (s : State) : Out := .next (egressRound (reachSafePoint s (some e) 1) e)

end Sys2Proof.Machine
end

