-- ==== Sys2Proof/Machine/TierMoves.lean ====
section
/-!
DEFINITION. MIGRATE and PREFETCH, the cold repair list at work, and the ends of tier requests that moves, repairs and cold
installs wait for (01 R48, 08 R228-R233, 09 R270).
-/

namespace Sys2Proof.Machine

open Sys2Proof

/-! ## Moves -/

def moveWork (s : State) (e : EngineId) (id : Nat) : Option MoveWork :=
  (findOp s e id).bind (fun o => match o.work with | .move m => some m | _ => none)
def setMove (s : State) (e : EngineId) (id : Nat) (m : MoveWork) : State := setWork s e id (.move m)

/-- Rows of pane `i` of an object: in its home window, and in its bay window. -/
def homeRow (s : State) (e : EngineId) (r : ResEntry) (i : Nat) : Nat := dataRow s e (r.homeFirst + i)
def bayRow (s : State) (e : EngineId) (r : ResEntry) (i : Nat) : Nat := dataRow s e (r.bayFirst + i)

/-- A SWEEP, an APPLYPEND or another transition of the object runs: it was dispatched earlier and has not completed. PREFETCH does
not wait for a SWEEP that waits under 08 R237. -/
def objectRuns (s : State) (e : EngineId) (id : Nat) (m : MoveWork) : Bool :=
  (s.eng e).iss.ops.any (fun o => o.id < id && match o.work with
    | .lanes w => ((parseObj w.desc).map (·.slot)) == some m.slot && !(m.up && w.ringFull && !w.started)
    | .move x => x.slot == m.slot
    | _ => false)

/-- Another object whose bay overlaps this one is not COLD (08 R230). -/
def bayTaken (s : State) (e : EngineId) (o : Nat) : Bool :=
  let r := resEntry s e o
  (validSlots s e).any (fun p =>
    let q := resEntry s e p
    p != o && q.bayWindow == r.bayWindow && overlap (q.bayFirst, q.span) (r.bayFirst, r.span) && resState s e p != stCold)

/-- What the residency word says when the move has ended well, and when it has failed. -/
def moveGoal (m : MoveWork) : Nat := if m.up == (m.phase == .failed) then stCold else stHot

/-- The operation has something on its way. -/
def moveBusy (s : State) (e : EngineId) (id : Nat) : Bool :=
  (s.eng e).fab.jobs.any (fun j => j.owner == .op id) || tierHas s e (· == .move id)

/-- The panes that say where a move may go: how its object stands, and for a PREFETCH how the objects whose bays overlap its bay do. -/
def movePanes (s : State) (e : EngineId) (m : MoveWork) : List (Window × Nat) :=
  let r := resEntry s e m.slot
  statePanes s e m.slot ++
    (if m.up then match dirWindow s e with
      | some w => ((validSlots s e).filter (fun p => (resEntry s e p).bayWindow == r.bayWindow
          && overlap ((resEntry s e p).bayFirst, (resEntry s e p).span) (r.bayFirst, r.span))).map (fun p => (w, dataRow s e (p / 512)))
      | none => []
     else [])

/-- The tier class of a move's accesses, and for a PREFETCH its LAYER and its place in dispatch order (08 R231). -/
def moveClass (m : MoveWork) : Nat := if m.up then 2 else 3
def moveLayer (s : State) (e : EngineId) (id : Nat) (m : MoveWork) : Nat × Nat :=
  if m.up then ((resEntry s e m.slot).layer, id) else (0, 0)

/-- The move meets a tier access that ended late or failed, or a row beyond decoding: its word returns (08 R230, 09 R271). -/
def failMove (s : State) (e : EngineId) (id status : Nat) (m : MoveWork) : State :=
  let s := if status == 0x30 then bump s e cntTierLate 1 else if status == 0x31 then bump s e cntTierErrors 1 else s
  setMove (addCause s e id status) e id { m with phase := .failed }

/-- One pane of a move is done. -/
def moveNext (s : State) (e : EngineId) (id : Nat) (m : MoveWork) : State :=
  setMove (unitDone s e id) e id { m with phase := .readHome, index := m.index + 1 }

/-- Write the home ledger entry of a moved pane: the bay's STEP_TAG and PENDING (08 R228, step 4). -/
def moveLedger (s : State) (e : EngineId) (id : Nat) (m : MoveWork) (hw bw : Window) (h b : Nat) : State :=
  let l := { stampLedger (ledgerOf s e hw h) (.moved (rowStep s e bw b) (ledgerOf s e bw b).pending) with column := columnHere s e h }
  tierChange (setMove s e id { m with phase := .writeLedger }) e 3 (0, 0) hw h (hw.ledgerAt h) (leBytes l.word 8) (.move id)

/-- The panes and entries of a MIGRATE have been read (08 R228, steps 2 to 4). An absent pane holds every step's value (03 R101), so
that its entry differs from no other. -/
def migratePane (s : State) (e : EngineId) (id : Nat) (m : MoveWork) (hw bw : Window) (h b : Nat) : State :=
  let tag := rowStep s e bw b
  if rowBytes s e hw h == rowBytes s e bw b then
    let s := bump s e cntMigrateUnchanged 1
    if !rowPresent s e hw h || !rowPresent s e bw b || rowStep s e hw h == tag then moveNext s e id m
    else moveLedger s e id m hw bw h b
  else
    startPane (setMove s e id { m with phase := .sendPane }) e (.op id) kindCold 0 (.moved tag (ledgerOf s e bw b).pending) true false
      hw h allGranules (rowBytes s e bw b)

/-- The home pane of a PREFETCH has been read (08 R229, steps 3 and 4). -/
def prefetchPane (s : State) (e : EngineId) (id : Nat) (m : MoveWork) (hw bw : Window) (h b : Nat) : State :=
  if !rowPresent s e hw h && !rowPresent s e bw b then moveNext s e id m
  else
    let tag := if rowPresent s e hw h then rowStep s e hw h else (s.eng e).job.committed
    let pend := !(liveParcels s e m.slot).isEmpty
    let s := setMove (bump s e cntPrefetchPanes 1) e id { m with index := m.index + 1 }
    startPane s e (.op id) kindDelta 0 (.moved tag pend) true true bw b allGranules (rowBytes s e hw h)

/-- The pane that a move writes cannot be taken into the update path now. -/
def moveWaits (s : State) (e : EngineId) (m : MoveWork) (hw bw : Window) (h b : Nat) : Bool :=
  reg s e regSweepPaneSlots ≤ slotsUsed s e || (if m.up then paneWaits s e bw.number b else paneWaits s e hw.number h)

/-- The panes of a move are at hand: it goes on with them, or takes them up again once it need not wait. -/
def movePane (s : State) (e : EngineId) (id : Nat) (m : MoveWork) (hw bw : Window) (h b : Nat) : State :=
  if moveWaits s e m hw bw h b then s
  else if m.up then prefetchPane s e id m hw bw h b else migratePane s e id m hw bw h b

/-- Read the panes of a move: the bay's in the stack, the home pane and its entry in the tier. An absent one is not read (03 R97,
R101). -/
def readMove (s : State) (e : EngineId) (id : Nat) (m : MoveWork) (hw bw : Window) (h b : Nat) : State :=
  if moveWaits s e m hw bw h b then s
  else
    let s := if !m.up && rowPresent s e bw b then
        noteMem (noteMem s e 1 (some id) false (bw.paneAt b) 4096) e 1 (some id) false (bw.ledgerAt b) 8 else s
    if rowPresent s e hw h then
      let p := s.group.coord.tierNext
      let layer := moveLayer s e id m
      tierAsk (tierFetch s e (moveClass m) layer (hw.paneAt h) 4096 .part) e (moveClass m) layer (hw.ledgerAt h) 8 [] false (some p)
        (.move id)
    else movePane s e id m hw bw h b

/-- Go on with a move as far as it can go. -/
def pumpMove : Nat → State → EngineId → Nat → State
  | 0, s, _, _ => s
  | n + 1, s, e, id =>
    match moveWork s e id with
    | none => s
    | some m =>
      if moveBusy s e id then s
      else
        let r := resEntry s e m.slot
        match m.phase with
        | .waitTurn =>
          if apertureHolds s e || objectRuns s e id m then s
          else match panesUsable s e (movePanes s e m) with
          | (s, .lost) => endWork s e id 0x10
          | (s, .good) =>
          if !dirReady s e m.slot then s
          else if resState s e m.slot == (if m.up then stHot else stCold) then endWork s e id 0x01
          else if m.up && bayTaken s e m.slot then endWork s e id 0x60
          else
            let s := setMove s e id { m with phase := .wordOut }
            let s := writeResWord s e (.op id) m.slot (resApplied s e m.slot) (if m.up then stUp else stDown)
            pumpMove n s e id
          | (s, _) => s
        | .wordOut => pumpMove n (setMove s e id { m with phase := .readHome, index := 0 }) e id
        | .readHome =>
          if r.span ≤ m.index then pumpMove n (setMove s e id { m with phase := .wordIn }) e id
          else match windowRec s e r.homeWindow, windowRec s e r.bayWindow with
            | some hw, some bw =>
              let h := homeRow s e r m.index
              let b := bayRow s e r m.index
              if m.up && (s.eng e).tier.repairs.any (fun x => x.1 == hw.number && x.2.1 == h) then s
              else
                match rowsUsable s e id 0 [(hw, h), (bw, b)] with
                | (s, .good) => pumpMove n (readMove s e id m hw bw h b) e id
                | (s, .lost) => pumpMove n (failMove s e id 0x10 m) e id
                | (s, _) => s
            | _, _ => failMove s e id 0x60 m
        | .sendPane => s
        | .writeLedger => s
        | .wordIn | .failed =>
          if resState s e m.slot == moveGoal m then endWork s e id 0x00
          else if dirReady s e m.slot then
            pumpMove n (writeResWord s e (.op id) m.slot (resApplied s e m.slot) (moveGoal m)) e id
          else s

/-- A tier transfer of a move has ended (08 R228-R230). A write that fails after its delta has been folded lists the pane. -/
def moveTier (s : State) (e : EngineId) (id status : Nat) : State :=
  match moveWork s e id with
  | none => s
  | some m =>
    let r := resEntry s e m.slot
    match windowRec s e r.homeWindow, windowRec s e r.bayWindow with
    | some hw, some bw =>
      let h := homeRow s e r m.index
      let b := bayRow s e r m.index
      if status != 0 then
        let s := if m.phase == .sendPane then addRepair s e hw.number h (columnHere s e h) else s
        failMove s e id status m
      else match m.phase with
        | .readHome => movePane s e id m hw bw h b
        | .sendPane => moveLedger (bump s e cntMigratePanes 1) e id m hw bw h b
        | .writeLedger => moveNext s e id m
        | _ => s
    | _, _ => failMove s e id 0x60 m

/-- U of a move: SPAN (12 R335). -/
def moveUnits (s : State) (e : EngineId) (i : RawInstr) : Nat := (resEntry s e (i.f3 11 0)).span

/-- MIGRATE and PREFETCH at dispatch (08 R230). -/
def beginMove (up : Bool) (s : State) (e : EngineId) (i : RawInstr) : State :=
  let o := i.f3 11 0
  let u := moveUnits s e i
  if i.body.w1 != 0 || i.body.w2 != 0 || i.f3 63 12 != 0 then endNow s e i u 0x60 4
  else if !(resEntry s e o).valid || (dirWindow s e).isNone || (poolWindow s e).isNone then endNow s e i u 0x60 5
  else
    let m : MoveWork := { slot := o, up := up, index := 0, phase := .waitTurn }
    let known := (movePanes s e m).all (fun p => rowKnown s e p.1 p.2)
    if known && resState s e o == (if up then stHot else stCold) then endNow s e i u 0x01 6
    else if known && up && bayTaken s e o then endNow s e i u 0x60 5
    else
      let id := nextOp s e
      pumpMove 8 (launch s e i (some (e.val, streamFacet s e i.stream % 8)) u (.move m)) e id

/-- MIGRATE moves an object to its home (08 R228). -/
def execMigrate (i : EngineInstr) (s : State) : Out := .next (route moveUnits (beginMove false) (rowInstr 0x38 i 0 0) s)

/-- PREFETCH brings an object up to its bay (08 R229). -/
def execPrefetch (i : EngineInstr) (s : State) : Out := .next (route moveUnits (beginMove true) (rowInstr 0x39 i 0 0) s)

/-- A PREFETCH has waited too long for a listed pane's repair or for a cold install (08 R230, 09 R270). -/
def coldWaitTimeout (s : State) (e : EngineId) (id : Nat) : State :=
  match moveWork s e id with
  | none => s
  | some m => if m.up && m.phase == .readHome && !moveBusy s e id then pumpMove 8 (failMove s e id 0x30 m) e id else s

/-- COLD_REPAIR_WAIT_TIMEOUT (08 R230). -/
def execColdRepairWaitTimeout (e : EngineId) (op : Nat) (s : State) : Out := .next (coldWaitTimeout s e op)

/-! ## Cold installs and the repair list -/

/-- Take a repaired pane off the list (08 R233). -/
def unlistRepair (s : State) (e : EngineId) (window row : Nat) : State :=
  if (s.eng e).tier.repairs.any (fun r => r.1 == window && r.2.1 == row) then
    storeRepairs (bump (s.modTier e (fun t => { t with
      repairs := t.repairs.filter (fun r => !(r.1 == window && r.2.1 == row)) })) e cntColdRepairs 1) e
  else s

/-- After the ledger entry of a cold pane that has been written anew: its mask word, its presence and rebuild bits (03 R103, 09 R265). -/
def coldInstalled (s : State) (e : EngineId) (n : Install) (w : Window) : State :=
  let m := installMask s e n
  let s := if holdsParity s e n.row then noteMem (setMask s e w n.row m.1 m.2) e 2 none true (w.maskAt n.row) 8 else s
  let s := noteMem (setPresent s e w n.row) e 2 none true (w.bitAt n.row) 1
  markInstalled (rowRebuilt s e w.number n.row) e w n.row

/-- The tier writes of a cold install have ended: it is installed, or its pane is listed (08 R233, 09 R270). -/
def coldInstallDone (s : State) (e : EngineId) (id status : Nat) : State :=
  match findInstall s e id with
  | none => s
  | some n => match windowRec s e n.window with
    | none => release s e n
    | some w =>
      if status != 0 then release (addRepair s e n.window n.row (columnHere s e n.row)) e n
      else
        release (unlistRepair (coldInstalled s e n w) e n.window n.row) e n

/-- The cold rows of the engine after a place: the next window and row to verify. -/
def nextColdRow (s : State) (e : EngineId) (at_ : Nat × Nat) : Option (Window × Nat) :=
  (((myWindows s e).filter (fun w => !w.isHot)).mergeSort (fun a b => a.number ≤ b.number)).findSome? (fun w =>
    if w.number == at_.1 && at_.2 < w.length then some (w, at_.2) else if at_.1 < w.number then some (w, 0) else none)

/-- Verify the next cold row after an overflow of the list; once the last has been verified REPAIR_OVERFLOW clears (08 R233). -/
def verifyCold (s : State) (e : EngineId) : State :=
  match nextColdRow s e (s.eng e).tier.verifyAt with
  | some (w, row) =>
    newInstall (s.modTier e (fun t => { t with verifyAt := (w.number, row + 1) })) e (.verify none false) w.number row
      (columnHere s e row) 0 false
  | none =>
    if (s.eng e).reb.installs.any (fun n => 8 ≤ n.window && match n.purpose with
        | .verify none _ => true
        | .rowCheck none _ _ => true
        | _ => false) then s
    else s.modTier e (fun t => { t with repairFull := false, verifyAt := (8, 0) })

/-- Repair the next listed pane that is not under repair and not beyond decoding: a parity pane is encoded from its row's data panes, a data pane is
decoded from its cold row (08 R233). -/
def coldRepair (s : State) (e : EngineId) : State :=
  match (s.eng e).tier.repairs.find? (fun r => !installing s e r.1 r.2.1 && !paneLost s e r.1 r.2.1) with
  | some (w, row, col) => newInstall s e .coldRepair w row col 0 true
  | none => if (s.eng e).tier.repairs.isEmpty && (s.eng e).tier.repairFull then verifyCold s e else s

end Sys2Proof.Machine
end

