-- ==== Sys2Proof/Machine/Snapshot.lean ====
section
/-!
DEFINITION. Apertures, silvering and restore (10 R281-R291, R299-R304).
-/

namespace Sys2Proof.Machine

open Sys2Proof

/-! ## The aperture (10 R282-R286, R291) -/

/-- The *RESIDENCY* table, 4,096 entries of 32 B. -/
def residencyBytes (s : State) (e : EngineId) : List Byte :=
  (List.range 4096).flatMap (fun o => leBytes (regElem s e regResidency o) 32)

/-- The side records of a generation (10 R295). -/
def sideRecords (s : State) (e : EngineId) : List Byte :=
  let map := ((s.eng e).job.job.map (·.mapBytes)).getD []
  Archive.record 1 map ++ Archive.record 2 (ringExport s e) ++ Archive.record 3 (hbm s e (descRange s e).1 (descRange s e).2)
  ++ Archive.record 4 (residencyBytes s e)
  ++ Archive.record 5 (updateContent (isSix s) (s.eng e).dict.regs (s.eng e).dict.blobs) ++ zeros 32

/-- A pane that is not held (10 R284). A pane found unreadable counts as a local erasure (notes/assumptions/24.md, DEDUCED). -/
def rowNotHeld (s : State) (e : EngineId) (w : Window) (row : Nat) : Bool :=
  ((s.eng e).reb.ranges.any (fun p => !p.2.local_ && p.2.window == w.number) && !rebuildBit s e w.number row)
  || inLocalRange s e w.number row || (rowPresent s e w row && (ledgerOf s e w row).degraded) || (w.isHot && rowErased s e w row)

/-- The generation that an aperture of now would stage. -/
def stagedNow (s : State) (e : EngineId) (gen : Nat) : Staged :=
  let shadow := reg s e regSnapMode == 1
  let ws := ((mapOf s e).map (·.windows)).getD [] |>.filter (fun w => w.engine == e.val && w.cls != 1)
  let out := ws.flatMap (fun w => ((List.range w.length).filter (rowNotHeld s e w)).map (fun r => (w.number, r)))
  let held := fun (w : Window) => (List.range w.length).filter (fun r => rowPresent s e w r && !out.contains (w.number, r))
  let panes := if shadow then [] else (ws.filter Window.isHot).flatMap (fun w =>
    (held w).map (fun r =>
      ({ window := w.number, row := r, ledger := leNat (winRead s e w (w.ledgerAt r) 8), content := rowBytes s e w r } : StagedPane)))
  let job := (s.eng e).job.job
  { gen := gen, step := (s.eng e).job.committed,
    map := (mapOf s e).getD { jobId := 0, gen := 0, k := 0, g := 0, m := 0, n := 0, sets := [], spares := [], windows := [] },
    setId := ((mySet s e).map (·.id)).getD 0, slot := (s.eng e).job.memberSlot, mapGen := genOf s e, jobId := jobIdOf s e,
    jobGen := (job.map (·.jobGen)).getD 0, time := s.time, shadow := shadow, panes := panes, notHeld := out,
    held := ws.map (fun w => (w.number, held w)), silver := [], side := sideRecords s e, cleared := false, written := 0, copying := !shadow, running := false }

/-- Present panes of the STATE windows. -/
def presentPanes (s : State) (e : EngineId) : Nat :=
  ((myWindows s e).filter (fun w => w.isHot && w.cls == 0)).foldl (fun n w =>
    n + ((List.range w.length).filter (rowPresent s e w)).length) 0

/-- Rows of the STATE windows. -/
def stateRows (s : State) (e : EngineId) : Nat :=
  ((myWindows s e).filter (fun w => w.isHot && w.cls == 0)).foldl (fun n w => n + w.length) 0

/-- *SNAP_NEED*: staging or shadow panes, and archive panes (10 R303). -/
def snapNeed (s : State) (e : EngineId) : Nat × Nat :=
  let g := stagedNow s e 0
  (Config.stagingPanes (presentPanes s e) (stateRows s e) g.side.length, Archive.size e g)

/-- The first failed check of 10 R283; 0 where all pass. -/
def apertureCheck (s : State) (e : EngineId) (gen step : Nat) : Nat :=
  let x := (s.eng e).snap
  let need := snapNeed s e
  let room := if reg s e regSnapMode == 1 then reg s e regShadowPanes else reg s e regSnapStagePanes
  if step != (s.eng e).job.committed then 1
  else if (s.eng e).job.committed < x.topSweep || slotsUsed s e != 0 then 2
  else if reg s e regArchivePanes != 0 && [0, 1].any (fun k => manifestGood (Archive.read s e k) && gen ≤ (parseManifest (Archive.read s e k)).gen) then 3
  else if x.snap.isSome then 4
  else if room < need.1 then 5
  else if reg s e regArchivePanes < need.2 || reg s e regArchivePanes == 0 then 6
  else 0

/-- The aperture in flight: operation, generation, step, whether it has reported ready, its first failed check. -/
def apertureOp (s : State) (e : EngineId) : Option (Op × Nat × Nat × Bool × Nat × BitVec 64) :=
  (s.eng e).iss.ops.findSome? (fun o => match o.work with
    | .aperture g t r f a => some (o, g, t, r, f, a)
    | _ => none)

/-- What 10 R282 waits for. -/
def apertureDrained (s : State) (e : EngineId) : Bool :=
  let g := s.eng e
  !g.mem.writes.any (·.accepted)
  && !g.fab.requests.any (fun r => (r.chunk.k == kindDelta || r.chunk.k == kindCold) && r.chunk.step == 0)
  && !g.iss.ops.any (fun o => match o.work with | .move m => m.phase != .waitTurn | _ => false)
  && !tierHas s e (fun c => match c with
    | .fold _ _ _ => true
    | .install _ => true
    | _ => false)

/-- APERTURE at dispatch: from now on the filter holds coded writes (10 R282). -/
def beginAperture (s : State) (e : EngineId) (i : RawInstr) : State :=
  if i.body.w1 != 0 || i.body.w2 != 0 then endNow s e i 1 0x60 4
  else launch ((stopDrill s e).modSnap e (fun x => { x with since := s.time })) e i none 1 (.aperture (i.f3 63 32) (i.f3 31 0) false 0 0)

def execAperture (i : EngineInstr) (s : State) : Out := .next (route noUnits beginAperture (rowInstr 0x48 i 0 0) s)

/-- A drained engine reports ready with its FAIL vote; the coordinator reports once every present engine has (10 R283). -/
def apertureReady (s : State) (e : EngineId) : State :=
  match apertureOp s e with
  | none => s
  | some (o, g, t, ready, _, _) =>
    if ready || !apertureDrained s e then s
    else
      let s := setWork s e o.id (.aperture g t true (apertureCheck s e g t) s.time)
      let votes := (presentEngines s).map (fun x => (apertureOp s x).map (fun p => (p.2.1, p.2.2.1, p.2.2.2.1, p.2.2.2.2.1)))
      if votes.all (fun v => match v with | some (a, b, r, _) => r && a == g && b == t | none => false) then
        s.modCoord (fun c => { c with snapOut := c.snapOut ++ [votes.any (fun v => match v with | some (_, _, _, f) => f != 0 | none => false)] })
      else s

def execApertureReady (e : EngineId) (s : State) : Out := .next (apertureReady s e)

/-- An aperture has completed: the time it took. -/
def apertureTime (s : State) (e : EngineId) : State :=
  setCounter s e cntApertureNsLast (s.time - (s.eng e).snap.since).toNat

/-- A pane and its ledger entry are read for the staging region; the writes into that region, whose layout is the engine's own, are
counted alone (10 R284). -/
def copyPane (e : EngineId) (op : Nat) (s : State) (p : StagedPane) : State :=
  match windowRec s e p.window with
  | none => s
  | some w =>
    bumpAt (noteMem (noteMem s e 3 (some op) false (w.paneAt p.row) 4096) e 3 (some op) false (w.ledgerAt p.row) 8) e cntMemRequests 3 64

/-- The release of one engine: the copy begins, or in shadow mode the set-aside. -/
def releaseAperture (s : State) (e : EngineId) (fail : Bool) : State :=
  match apertureOp s e with
  | none => s
  | some (o, g, _, ready, check, _) =>
    if !ready then s
    else if fail then
      bump (finishOp (apertureTime s e) e o 0x60 (checkInfo check)) e cntApertureFails 1
    else
      let x := stagedNow s e g
      let bad := (myWindows s e).filter (fun w => w.isHot && w.cls == 0) |>.flatMap (fun w =>
        ((List.range w.length).filter (rowErased s e w)).map (fun r => (w, r)))
      let s := s.modSnap e (fun y => { y with snap := some x })
      let s := bad.foldl (fun s p => (checkRow s e p.1 p.2).1) s
      let s := x.panes.foldl (copyPane e o.id) s
      if x.copying then s else bump (finishOp (apertureTime s e) e o 0x00 0) e cntApertures 1

/-- The release of the snapshot barrier (10 R283, R284). -/
def apertureRelease (s : State) (fail : Bool) : State :=
  forEngines (presentEngines s) (fun s e => releaseAperture s e fail) (s.modCoord (fun c => { c with snapOut := [] }))

/-- The copy has ended: the generation is staged, and what was held goes on (10 R284, R285). -/
def apertureCopyEnd (s : State) (e : EngineId) : State :=
  match (s.eng e).snap.snap, apertureOp s e with
  | some g, some (o, _, _, _, _, _) =>
    if !g.copying then s
    else
      let s := s.modSnap e (fun x => { x with snap := some { g with copying := false } })
      engineBoundary (bump (finishOp (apertureTime s e) e o 0x00 0) e cntApertures 1) e
  | _, _ => s

/-- A ready APERTURE without release for APERTURE_TIMEOUT completes with 0x10 (10 R283). -/
def apertureTimeout (s : State) (e : EngineId) : State :=
  match apertureOp s e with
  | some (o, _, _, true, _, _) =>
    if copyRuns s e then s else bump (finishOp (apertureTime s e) e o 0x10 0) e cntApertureFails 1
  | _ => s

/-! ## Silvering (10 R287-R290) -/

def silverWork (s : State) (e : EngineId) (id : Nat) : Option SilverWork :=
  (findOp s e id).bind (fun o => match o.work with | .silver w => some w | _ => none)

/-- The generation a SILVER works on. -/
def silverGen (s : State) (e : EngineId) (id : Nat) : Option Staged :=
  match silverWork s e id, (s.eng e).snap.snap with
  | some w, some g => if g.gen == w.gen then some g else none
  | _, _ => none

/-- SILVER ends; what it drained stays staged unless `drop`. -/
def endSilver (s : State) (e : EngineId) (id status : Nat) (drop : Bool) : State :=
  let s := s.modSnap e (fun x => { x with snap := match x.snap with
    | some g => if drop then none else some { g with running := false }
    | none => none })
  readManifests (endWork s e id status) e

/-- Change the staged generation. -/
def setStaged (s : State) (e : EngineId) (g : Staged) : State := s.modSnap e (fun x => { x with snap := some g })

/-- A silvering or a silver-ahead of the engine is under way at the tier. -/
def silverWaits (s : State) (e : EngineId) (id : Nat) : Bool :=
  tierHas s e (fun c => match c with
    | .silver o => o == id
    | .ahead _ _ _ _ => true
    | _ => false)

/-- Write pane `k` of the archive: a cold one is read from the tier first, a hot one of a generation in shadow mode that has not been set
aside from the stack (10 R287, R288, R291). -/
def silverPane (s : State) (e : EngineId) (id : Nat) (g : Staged) (k : Nat) : State :=
  let bytes := Archive.pane s e g k
  let to_ := Archive.base s e g.gen + 4096 * k
  match Archive.rowAt e g k with
  | none => tierStore s e 4 (0, 0) to_ bytes none (.silver id)
  | some (w, r) =>
    let s := bump s e cntPaneDigests 1
    if w.isHot then
      let s := if g.panes.any (Archive.isPane w r) then bumpAt s e cntMemRequests 3 64 else noteMem s e 3 (some id) false (w.paneAt r) 4096
      tierStore s e 4 (0, 0) to_ bytes none (.silver id)
    else
      let n := s.group.coord.tierNext
      let s := tierFetch s e 4 (0, 0) (w.paneAt r) 4096 .part
      let s := tierAsk s e 4 (0, 0) (w.ledgerAt r) 8 [] false (some n) .part
      tierStore s e 4 (0, 0) to_ bytes (some (n + 1)) (.silver id)

/-- Go on with a SILVER: the next tier write that it needs. A pane silvered ahead has been written (10 R287-R289). -/
def pumpSilver : Nat → State → EngineId → Nat → State
  | 0, s, _, _ => s
  | n + 1, s, e, id =>
    if (silverWork s e id).isNone || silverWaits s e id then s
    else match silverGen s e id with
      | none => readManifests (endWork s e id 0x60) e
      | some g =>
        if !g.cleared then tierStore s e 4 (0, 0) (Archive.base s e g.gen) (zeros 4096) none (.silver id)
        else match (Archive.order e g)[g.written]? with
          | none => tierStore s e 4 (0, 0) (Archive.base s e g.gen) (Archive.manifest s e g) none (.silver id)
          | some k =>
            if ((Archive.rowAt e g k).map (fun p => Archive.silvered g p.1 p.2)).getD false then
              pumpSilver n (unitDone (setStaged s e { g with written := g.written + 1 }) e id) e id
            else silverPane s e id g k

/-- Go on with a SILVER, past every pane that has been silvered ahead. -/
def goSilver (s : State) (e : EngineId) (id : Nat) : State :=
  pumpSilver (((silverGen s e id).map (fun g => g.silver.length)).getD 0 + 1) s e id

/-- A row has reached the archive, with its ledger entry and digest. -/
def silveredRow (s : State) (e : EngineId) (g : Staged) (w : Window) (r : Nat) : Staged :=
  if Archive.silvered g w r then g
  else match Archive.row s e g w r with
    | .held ledger content => { g with silver := g.silver ++ [{ window := w.number, row := r, ledger := ledger, digest := blake3 content }] }
    | _ => g

/-- A tier write of a SILVER has ended (10 R287, R289). -/
def silverTier (s : State) (e : EngineId) (id status : Nat) : State :=
  match silverGen s e id with
  | none => goSilver s e id
  | some g =>
    if status != 0 then endSilver (bump s e (if status == 0x30 then cntTierLate else cntTierErrors) 1) e id status false
    else if !g.cleared then goSilver (setStaged s e { g with cleared := true }) e id
    else match (Archive.order e g)[g.written]? with
      | none => endSilver s e id 0x00 true
      | some k =>
        let g := match Archive.rowAt e g k with
          | some (w, r) => silveredRow s e g w r
          | none => g
        goSilver (unitDone (bump (setStaged s e { g with written := g.written + 1 }) e cntSilverPanes 1) e id) e id

/-- The silver-ahead of a row has ended, or that of the manifest pane (10 R288). -/
def aheadTier (s : State) (e : EngineId) (gen window row : Nat) (entry : Bool) (status : Nat) : State :=
  match (s.eng e).snap.snap with
  | none => s
  | some g =>
    if g.gen != gen || status != 0 then s
    else if !entry then setStaged s e { g with cleared := true }
    else match windowRec s e window with
      | none => s
      | some w =>
        if Archive.silvered g w row then s
        else setStaged (bump (bump s e cntSilverAheadPanes 1) e cntPaneDigests 1) e (silveredRow s e g w row)

/-- U of SILVER: the panes of step 2 (12 R335). -/
def silverUnits (s : State) (e : EngineId) (i : RawInstr) : Nat :=
  match (s.eng e).snap.snap with
  | some g => if g.gen == i.f3 63 32 then Archive.size e g - 1 else (snapNeed s e).2 - 1
  | none => (snapNeed s e).2 - 1

/-- The generation that is staged: its copy has ended (10 R284). -/
def stagedOf (s : State) (e : EngineId) : Option Staged := (s.eng e).snap.snap.filter (!·.copying)

/-- SILVER at dispatch: RUN drains the staged generation, ABANDON discards it (10 R287, R289). -/
def beginSilver (s : State) (e : EngineId) (i : RawInstr) : State :=
  let u := silverUnits s e i
  let gen := i.f3 63 32
  if i.body.w1 != 0 || i.body.w2 != 0 || i.f3 31 1 != 0 then endNow s e i u 0x60 4
  else match stagedOf s e with
    | none => if i.f3 0 0 == 1 then endNow s e i u 0x01 6 else endNow s e i u 0x60 5
    | some g =>
      if g.gen != gen || (i.f3 0 0 == 0 && g.running) then endNow s e i u 0x60 5
      else if i.f3 0 0 == 1 then
        let s := (s.eng e).iss.ops.foldl (fun s o => match o.work with
          | .silver _ => endWork s e o.id 0x60
          | _ => s) s
        endNow (readManifests (s.modSnap e (fun x => { x with snap := none })) e) e i u 0x00 0
      else
        let id := nextOp s e
        let s := launch s e i none u (.silver { gen := gen })
        goSilver (setStaged s e { g with running := true }) e id

def execSilverRun (i : EngineInstr) (s : State) : Out := .next (route silverUnits beginSilver (rowInstr 0x49 i 1 0) s)
def execSilverAbandon (i : EngineInstr) (s : State) : Out := .next (route silverUnits beginSilver (rowInstr 0x49 i 1 1) s)

/-! ## Restore (10 R299-R301) -/

/-- PREPARE: masks and rebuild bitmap zero, an enrolment range for every STATE and COLD window. No row is installed before FINISH (10
R301). -/
def prepareRestore (s : State) (e : EngineId) (gen : Nat) : State :=
  let ws := (myWindows s e).filter (·.cls != 1)
  let s := ws.foldl (fun s w => zeroHbm s e (w.mask * 4096) (8 * w.length)) s
  let s := zeroHbm s e (bitmapRange s e).1 (bitmapRange s e).2
  let open_ := ws.map (fun w =>
    (w.number, ({ window := w.number, first := 0, last := w.length - 1, local_ := false } : DegradedRange)))
  let s := s.modReb e (fun r => { r with
    ranges := open_ ++ r.ranges.filter (fun p => 16 ≤ p.1), parts := r.parts.filter (·.hop != 0x21), enrolled := true, swept := true, firstCommit := false, doneRaised := false })
  s.modSnap e (fun x => { x with restoreGen := some gen })

/-- FINISH: installs may start. GRADIENT windows hold nothing that a restore could lack, so their rebuild bits are set
(notes/assumptions/25.md, DEDUCED). -/
def finishRestore (s : State) (e : EngineId) : State :=
  let s := ((myWindows s e).filter (·.cls == 1)).foldl (fun s w =>
    (List.range w.length).foldl (fun s r => setRebuildBit s e w.number r) s) s
  s.modReb e (fun r => { r with firstCommit := true })

/-- The chip that now holds an archive's set and slot. -/
def restoreChip (s : State) (e : EngineId) (m : Manifest) : Option Member :=
  (mapOf s e).bind (fun p => (p.sets.find? (fun t => t.id == m.setId)).bind (fun t => t.members[m.slot]?))

/-- The manifest's geometry and window table are those of the committed map (10 R299). -/
def manifestFits (s : State) (e : EngineId) (m : Manifest) : Bool :=
  let o := geo s e
  let ws := ((myWindows s e).filter (·.cls != 1)).mergeSort (fun a b => a.number ≤ b.number)
  m.geo == (o.k, o.g, o.m, o.n) && (restoreChip s e m).isSome
  && m.table.map (fun t => (t.1, t.2.1, t.2.2.1)) == ws.map (fun w => (w.number, w.cls, w.length))

/-- The ledger entry of a restored pane (10 R300). -/
def loadedLedger (s : State) (e : EngineId) (row tag : Nat) (pending : Bool) : Ledger :=
  { stepTag := tag, version := 0, column := columnHere s e row, degraded := false, rebuilt := true, pending := pending, there := true }

/-- After a restored pane and its ledger entry: presence bits, rebuild bit (03 R103, 10 R300). -/
def stampLoaded (s : State) (e : EngineId) (w : Window) (row : Nat) : State :=
  let s := noteMem (setPresent (bump s e cntRestorePanesLoaded 1) e w row) e 2 none true (w.bitAt row) 1
  markInstalled (rowRebuilt s e w.number row) e w row

/-- The ledger entry of a restored hot pane whose bytes have been written. -/
def stampHot (s : State) (e : EngineId) (w : Window) (row tag : Nat) (pending : Bool) : State :=
  stampLoaded (noteMem (repairLedger s e w row (loadedLedger s e row tag pending)) e 2 none true (w.ledgerAt row) 8) e w row

/-- Write a whole restored pane here for a LOAD: a hot one at once, a cold one through the tier. A pane whose rebuild bit is set is a
duplicate. -/
def loadPane (s : State) (e : EngineId) (id : Nat) (w : Window) (row tag : Nat) (pending : Bool) (content : List Byte) : State :=
  if rebuildBit s e w.number row then s
  else if w.isHot then stampHot (storePane s e 2 w row allGranules content) e w row tag pending
  else tierAnew s e 4 w row content (loadedLedger s e row tag pending) (.loaded w.number row tag pending (some id) none)

/-- The held panes of the archive a LOAD reads, in order. -/
def loadList (s : State) (e : EngineId) (slot : Nat) : List Archive.Held :=
  Archive.heldOf s e slot (parseManifest (Archive.read s e slot))

def restoreWork (s : State) (e : EngineId) (id : Nat) : Option (Nat × Nat × Nat) :=
  (findOp s e id).bind (fun o => match o.work with | .restore g sl k => some (g, sl, k) | _ => none)

/-- Read the next held pane of a LOAD, or end it. -/
def pumpRestore (s : State) (e : EngineId) (id : Nat) : State :=
  match restoreWork s e id with
  | none => s
  | some (_, slot, k) =>
    if tierHas s e (· == .restore id) then s
    else match (loadList s e slot)[k]? with
      | none => endWork s e id 0x00
      | some h => tierFetch s e 4 (0, 0) (Archive.base s e slot + 4096 * h.offset) 4096 (.restore id)

/-- Header bits [28:0] of RESTORE_XFER (10 R300). -/
def restoreExt (gen : Nat) (pending : Bool) : Nat := put gen 16 13 + put (b2n pending) 1 0

/-- Send a pane to its destination: written here, or as 16 RESTORE_XFER chunks. -/
def sendRestored (s : State) (e : EngineId) (id gen slot : Nat) (h : Archive.Held) (content : List Byte) : State :=
  let m := parseManifest (Archive.read s e slot)
  match restoreChip s e m, windowRec s e h.window with
  | some d, some w =>
    let l := parseLedger h.ledger
    if d.chip == chipId s then loadPane s e id w h.row l.stepTag l.pending content
    else
      let col := (geo s e).columnOf h.row m.slot
      (rawChunks content).foldl (fun s p =>
        request s e (.op id) d.chip e.val 3 kindRestore (placeOf h.window h.row col p.1) l.stepTag (restoreExt gen l.pending) p.2) s
  | _, _ => s

/-- A tier read of a LOAD has ended: the pane is checked against its digest and sent (10 R300). -/
def restoreTier (s : State) (e : EngineId) (id : Nat) (status : Nat) : State :=
  match restoreWork s e id with
  | none => s
  | some (gen, slot, k) =>
    if status != 0 then endWork (bump s e (if status == 0x30 then cntTierLate else cntTierErrors) 1) e id status
    else match (loadList s e slot)[k]? with
      | none => endWork s e id 0x00
      | some h =>
        let content := Archive.slotPane s e slot h.offset
        let s := setWork s e id (.restore gen slot (k + 1))
        let s := bump s e cntPaneDigests 1
        let s := if blake3 content == h.digest then sendRestored s e id gen slot h content
                 else addCause (digestMismatch (bump s e cntRestoreDigestMismatch 1) e) e id 0x40
        pumpRestore s e id

/-- LOAD at dispatch: manifest, ring, then the panes (10 R299, R300). -/
def beginLoad (s : State) (e : EngineId) (i : RawInstr) (gen slot : Nat) : State :=
  let m := parseManifest (Archive.read s e slot)
  if (s.eng e).snap.restoreGen != some gen then endNow s e i 1 0x60 5
  else if reg s e regArchivePanes == 0 || !Archive.valid s e slot || m.gen != gen || m.step != (s.eng e).job.committed then
    endNow s e i 1 0x10 0
  else if !manifestFits s e m then endNow s e i 1 0x60 5
  else if (restoreChip s e m).any (·.state == 2) then endNow s e i 1 0x10 0
  else
    let ring := (Archive.sideRecord 16 2 (tierRead s (Archive.base s e slot + 4096) (4096 * m.side))).getD []
    let (s, a) := ringImport s e ring
    if a.code != 0 then endNow s e i 1 0x60 5
    else
      let id := nextOp s e
      pumpRestore (launch s e i none 1 (.restore gen slot 0)) e id

/-- RESTORE at dispatch (10 R299). -/
def beginRestore (s : State) (e : EngineId) (i : RawInstr) : State :=
  let gen := i.f3 63 32
  if i.body.w1 != 0 || i.body.w2 != 0 || i.f3 31 5 != 0 || i.f3 3 2 != 0 then endNow s e i 1 0x60 4
  else if !armed s e || (s.eng e).snap.workRun then endNow s e i 1 0x60 5
  else match i.f3 1 0 with
    | 0 => endNow (prepareRestore s e gen) e i 1 0x00 0
    | 1 => beginLoad s e i gen (i.f3 4 4)
    | _ => endNow (finishRestore s e) e i 1 0x00 0

def execRestorePrepare (i : EngineInstr) (s : State) : Out := .next (route noUnits beginRestore (rowInstr 0x4a i 3 0) s)
def execRestoreLoad (i : EngineInstr) (s : State) : Out := .next (route noUnits beginRestore (rowInstr 0x4a i 3 1) s)
def execRestoreFinish (i : EngineInstr) (s : State) : Out := .next (route noUnits beginRestore (rowInstr 0x4a i 3 2) s)

/-- The pane a RESTORE_XFER names lies in a window of this engine, in the column it holds (01 R35). -/
def xferTarget (s : State) (e : EngineId) (c : Chunk) : Option Window :=
  match windowRec s e c.window with
  | some w => if c.row < w.length && c.column == columnHere s e c.row && c.granule % 4 == 0 && w.cls != 1 then some w else none
  | none => none

/-- The chunks of a restored pane that have been written. -/
def xferPart (window row : Nat) (p : ChainPart) : Bool := p.hop == 0x21 && p.window == window && p.row == row

/-- A chunk of a restored pane has been written: it is acknowledged, and the sixteenth is followed by the ledger entry (10 R300). -/
def xferWritten (s : State) (e : EngineId) (w : Window) (c : Chunk) : State :=
  let old := (((s.eng e).reb.parts.find? (xferPart c.window c.row)).map (·.segments)).getD []
  let segs := AList.set old (c.granule / 4) []
  let s := s.modReb e (fun r => { r with parts := r.parts.filter (fun p => !xferPart c.window c.row p) })
  let s := answer s e c kindSAck 0 c.step.toNat []
  let tag := c.step.toNat
  let pending := c.x 0 0 == 1
  if segs.length == 16 then
    if w.isHot then stampHot s e w c.row tag pending
    else tierStore s e 4 (0, 0) (w.ledgerAt c.row) (leBytes (loadedLedger s e c.row tag pending).word 8) none
      (.loaded c.window c.row tag pending none none)
  else
    let p : ChainPart := { window := c.window, row := c.row, column := c.column, origin := 0, hop := 0x21, coeff := 0,
                           nextSlot := 0, segments := segs, marks := 0, frozen := false, gen := c.mapGen }
    s.modReb e (fun r => { r with parts := p :: r.parts })

/-- Perform a RESTORE_XFER: the chunk's granules are written, a cold pane's through the tier, and then acknowledged. A pane whose rebuild
bit is set is a duplicate (10 R300). -/
def performXfer (s : State) (e : EngineId) (c : Chunk) : State :=
  match xferTarget s e c with
  | none => untranslated s e c
  | some w =>
    if !((s.eng e).snap.restoreGen.any (fun g => g % 65536 == c.x 28 13)) then nak s e c 0x60
    else if rebuildBit s e w.number c.row then answer s e c kindSAck 0 c.step.toNat []
    else
      let bytes := slice c.payload 0 256
      if w.isHot then
        xferWritten (storePane s e 2 w c.row ((List.range 4).map (· + c.granule)) (zeros (64 * c.granule) ++ bytes)) e w c
      else tierStore s e 4 (0, 0) (w.paneAt c.row + 64 * c.granule) bytes none
        (.loaded c.window c.row c.step.toNat (c.x 0 0 == 1) none (some c))

/-- A tier write of a restored cold pane has ended: that of a chunk, or that of the ledger entry after the whole pane. One that fails ends
the LOAD, or refuses the chunk (10 R299, R300). -/
def loadedTier (s : State) (e : EngineId) (window row : Nat) (owner : Option Nat) (chunk : Option Chunk) (status : Nat) : State :=
  match windowRec s e window with
  | none => s
  | some w =>
    if status != 0 then
      let s := bump s e (if status == 0x30 then cntTierLate else cntTierErrors) 1
      let s := match chunk with
        | some c => nak s e c status
        | none => s
      match owner with
      | some id => endWork s e id status
      | none => s
    else match chunk with
      | some c => if rebuildBit s e window row then answer s e c kindSAck 0 c.step.toNat [] else xferWritten s e w c
      | none => stampLoaded s e w row

end Sys2Proof.Machine
end

