-- ==== Sys2Proof/Machine/Reset.lean ====
section
/-!
DEFINITION. Resets at their four levels, drain and absorb, facet and engine faults, and what a position loses when it becomes absent
(01 R58-R60, 04 R132-R133, 15 R400-R407).
-/

namespace Sys2Proof.Machine

open Sys2Proof

/-! ## Instructions that never ran (15 R401) -/

/-- An object descriptor that cannot be read. -/
def descBad (s : State) (e : EngineId) (d : Nat) : Bool :=
  d < reg s e regDescCount && !readable s e (reg s e regDescBase * 4096 + 64 * d) 128

/-- U of an instruction; none where its descriptor cannot be read. -/
def unitsOf (s : State) (e : EngineId) (i : RawInstr) : Option Nat :=
  match i.op with
  | 0x08 => some (copyUnits s e i)
  | 0x21 => some (accumUnits s e i)
  | 0x23 => if descBad s e (i.f1 15 0) then none else some (sealUnits s e i)
  | 0x30 => if descBad s e (i.f1 15 0) then none else some (sweepUnits s e i)
  | 0x3a => if descBad s e (i.f1 15 0) then none else some (applyUnits s e i)
  | 0x38 | 0x39 => some (moveUnits s e i)
  | 0x40 => some (digestUnits s e i)
  | 0x41 => some (compareUnits s e i)
  | 0x49 => some (silverUnits s e i)
  | n => some (if 0x10 ≤ n && n ≤ 0x15 then i.panes else 1)

/-- A waiting instruction completes unexecuted, one more operation that a reset completes with 0x50 (15 R401, R416). -/
def completeQueued (s : State) (e : EngineId) (i : RawInstr) : State :=
  match unitsOf s e i with
  | some u => bump (endNow s e i u 0x50 0) e cntOpsAbsorbed 1
  | none => publish s e 0xf i 1 0x40 0 false

/-- Every instruction waiting in an issue queue. -/
def completeQueues (s : State) (e : EngineId) : State :=
  let all := (s.eng e).iss.queues
  let s := s.modIss e (fun q => { q with queues := [] })
  all.foldl (fun s q => q.2.foldl (fun s i => completeQueued s e i) s) s

/-! ## Operations in flight (15 R402, R403) -/

/-- Forget what an operation has on its way: panes, requests, installs, fetches. -/
def forgetOp (s : State) (e : EngineId) (id : Nat) : State :=
  let jobs := ((s.eng e).fab.jobs.filter (fun j => j.owner == .op id)).map (·.id)
  let inst := (s.eng e).reb.installs.filter (fun n => purposeOp n.purpose == some id)
  let fet := ((s.eng e).reb.fetches.filter (fun f => f.owner == .op id)).map (·.id)
  let s := inst.foldl (fun s n => dropInstall (releaseSources s e .standing n []) e n.id) s
  let s := s.modReb e (fun r => { r with fetches := r.fetches.filter (fun f => f.owner != .op id) })
  let s := s.modFab e (fun f => { f with jobs := f.jobs.filter (fun j => j.owner != .op id) })
  dropReqs s e (fun r => match r.owner with
    | .op o => o == id
    | .job j => jobs.contains j
    | .fetch x => fet.contains x
    | .install n => inst.any (·.id == n)
    | _ => false)

/-- End an operation with 0x50; one that a reset, in either mode, so completes is counted (15 R402, R403, R416). -/
def stopOp (s : State) (e : EngineId) (o : Op) (absorbed : Bool) : State :=
  let s := finishOp (forgetOp s e o.id) e o 0x50 0
  if absorbed then bump s e cntOpsAbsorbed 1 else s

/-- A pass that waits for a staging queue. -/
def awaitsStage (s : State) (e : EngineId) (p : PassWork) : Bool :=
  p.ins.any (fun b => match b with
    | .stage q => (AList.getD (s.eng e).iss.stages q []).isEmpty
    | _ => false)

/-- A request belongs to an operation: its own, or that of a pane, fetch or install of it. -/
def reqOfOp (s : State) (e : EngineId) (id : Nat) (r : Request) : Bool :=
  match r.owner with
  | .op x => x == id
  | .job j => (s.eng e).fab.jobs.any (fun p => p.id == j && p.owner == .op id)
  | .fetch x => (s.eng e).reb.fetches.any (fun f => f.id == x && f.owner == .op id)
  | .install x => (s.eng e).reb.installs.any (fun n => n.id == x && purposeOp n.purpose == some id)
  | _ => false

def heldNewer (r : Request) : Bool := match r.hold with | .newGen _ => true | _ => false

/-- It waits for an event outside the level (15 R402). -/
def waitsOutside (s : State) (e : EngineId) (o : Op) : Bool :=
  (s.eng e).fab.requests.any (fun r => (heldNewer r || r.hold == .retry) && reqOfOp s e o.id r)
  || (s.eng e).reb.fetches.any (fun f => f.owner == .op o.id)
  || (s.eng e).reb.installs.any (fun n => purposeOp n.purpose == some o.id)
  || (match o.work with
    | .barrier _ _ _ _ => true
    | .aperture _ _ _ _ _ => true
    | .closing _ _ => true
    | .mirror _ _ _ => true
    | .compare _ _ _ _ => true
    | .abort _ => true
    | .pass p => awaitsStage s e p
    | _ => false)

/-- A pane lies among some pane places of the stack. -/
def amongPanes (s : State) (e : EngineId) (ps : List Nat) (window row : Nat) : Bool :=
  match windowRec s e window with
  | some w => ps.contains (w.base + row)
  | none => false

/-- Stop a sweep between its sweep blocks: only the panes of those that have been stamped in part go on (07 R435). -/
def stopAtBlock (s : State) (e : EngineId) (o : Op) : State :=
  let half := halfPanes s e o
  match o.work with
  | .lanes w =>
    let gone := ((s.eng e).fab.jobs.filter (fun j => j.owner == .op o.id && !amongPanes s e half j.window j.row)).map (·.id)
    let s := setWork (addCause s e o.id 0x50) e o.id (.lanes { w with
      ready := w.ready.filter (fun p => amongPanes s e half p.window p.row), last := w.next })
    let s := s.modFab e (fun f => { f with jobs := f.jobs.filter (fun j => !gone.contains j.id) })
    dropReqs s e (fun r => match r.owner with
      | .job j => gone.contains j
      | _ => false)
  | _ => s

/-- Stop an operation at its next boundary (15 R403). -/
def stopNext (s : State) (e : EngineId) (o : Op) (absorbed : Bool) : State :=
  if (halfPanes s e o).isEmpty then stopOp s e o absorbed
  else
    let s := if absorbed && !o.causes.contains 0x50 then bump s e cntOpsAbsorbed 1 else s
    stopAtBlock s e o

/-- Complete every coded write of the path unperformed; those held at the filter stay there (01 R59). -/
def dropWrites (s : State) (e : EngineId) (status : Nat) : State :=
  let ws := (s.eng e).mem.writes.filter (·.accepted)
  let jobs := ((s.eng e).fab.jobs.filter (fun j => match j.owner with | .write _ => true | _ => false)).map (·.id)
  let s := s.modMem e (fun m => { m with writes := m.writes.filter (!·.accepted) })
  let s := s.modFab e (fun f => { f with jobs := f.jobs.filter (fun j => !jobs.contains j.id) })
  let s := dropReqs s e (fun r => match r.owner with | .job j => jobs.contains j | _ => false)
  ws.foldl (fun s x => agentDone s e x.granule true status []) s

/-- Absorb an engine: its operations stop at their next boundary, its coded writes complete unperformed. A faulted engine finishes
nothing (07 R193). -/
def absorbEngine (s : State) (e : EngineId) (fault : Bool) : State :=
  let s := (s.eng e).iss.ops.foldl (fun s o => if fault then stopOp s e o true else stopNext s e o true) s
  let keep := fun (j : PaneJob) => (s.eng e).iss.ops.any (fun o => j.owner == .op o.id)
  let s := dropWrites s e (if fault then 0x70 else 0x50)
  let s := s.modReb e (fun r => { r with installs := [], fetches := [] })
  let s := s.modFab e (fun f => { f with jobs := f.jobs.filter keep })
  let s := dropReqs s e (fun r => match r.owner with
    | .job j => !(s.eng e).fab.jobs.any (·.id == j)
    | _ => true)
  s.modSnap e (fun x => { x with snap := none })

/-- A held request that waits for an event outside: a slot, a commit or a generation (15 R402). -/
def heldOutside (h : Held) : Bool :=
  match h.why with
  | .slotOpen | .commit | .gen _ => true
  | _ => false

/-- Drain an engine: what waits for an event outside completes at once, held requests with NAK 0x50 (01 R59, 15 R402). -/
def drainEngine (s : State) (e : EngineId) : State :=
  let outs := (s.eng e).fab.held.filter heldOutside
  let s := s.modFab e (fun f => { f with held := f.held.filter (fun h => !heldOutside h) })
  let s := outs.foldl (fun s h => nak s e h.chunk 0x50) s
  let s := (s.eng e).iss.ops.foldl (fun s o => if waitsOutside s e o then stopNext s e o true else s) s
  if copyRuns s e then s.modSnap e (fun x => { x with snap := none }) else s

/-- Lent operations that run here go home, from their first unretired pane-row, never lent again (04 R133). -/
def sendHome (s : State) (b : EngineId) (f : Nat) : State :=
  let lent := (facetOf s b f).queue.filter (fun r => r.home != b.val)
  lent.foldl (fun s r =>
    let h := engineOf r.home
    let s := leaveFacet s b f r
    match findOp s h r.op with
    | none => s
    | some o =>
      let g := homeFacet s h o.ins.stream
      joinFacet (modOp s h r.op (fun x => { x with
        facet := some (h.val, g), ins := { x.ins with body := { x.ins.body with relocatable := false } } })) h g r) s

def facetIds (s : State) : List Nat := List.range (facetCount s)

/-! ## Requests (15 R400-R406) -/

/-- *LAST_RESET* (15 R415). -/
def lastResetWord (s : State) (level : Nat) (absorb : Bool) (source cause : Nat) : BitVec 64 :=
  BitVec.ofNat 64 (put s.time.toNat 48 16 + put level 2 14 + put (b2n absorb) 1 13 + put source 2 11 + put cause 8 0)

def sourceSignal : Nat := 0
def sourceDict : Nat := 1
def sourceFault : Nat := 2

/-- Stop issue and handle what is in flight. -/
def beginReset (s : State) (e : EngineId) (r : ResetRun) (level source cause : Nat) : State :=
  let word := lastResetWord s level r.absorb source cause
  let s := s.modBring e (fun b => { b with rst := some r, lastReset := word })
  let s := bump (stopDrill s e) e cntResets 1
  let s := (facetIds s).foldl (fun s f => sendHome s e f) s
  let s := completeQueues s e
  if r.absorb then absorbEngine s e r.fault else drainEngine s e

/-- A reset request for an engine (15 R406). -/
def requestReset (s : State) (e : EngineId) (absorb group fault : Bool) (level source cause : Nat) : State :=
  let r : ResetRun := { absorb := absorb, done := false, group := group, signal := source == sourceSignal, fault := fault }
  match (s.eng e).bring.rst with
  | none => beginReset s e r level source cause
  | some old =>
    if old.done then (if group && !old.group then beginReset s e r level source cause else s)
    else
      let s := s.modBring e (fun b => { b with rst := some { old with
        absorb := old.absorb || absorb, group := old.group || group, fault := old.fault || fault } })
      if absorb && !old.absorb then absorbEngine s e fault else s

/-- A reset request for the group or the chip. -/
def requestGroup (s : State) (absorb chip : Bool) (source : Nat) : State :=
  let level := if chip then 3 else 2
  let g : GroupReset := { absorb := absorb, done := false, signal := source == sourceSignal, chip := chip }
  let s := s.modCoord (fun c => { c with groupRst := match c.groupRst with
    | none => some g
    | some o => some { o with absorb := o.absorb || absorb, chip := o.chip || chip, done := o.done && !(chip && !o.chip) } })
  forEngines allEngines (fun s e => requestReset s e absorb true false level source 0) s

/-- A facet's stage 5 test (15 R412): whether it passes is a free value. A fold facet then takes its matrix again (04 R120). -/
def testFacet (s : State) (e : EngineId) (f : Nat) : State :=
  let pass := Config.selfTestPasses s.freeCount
  let s := useFree s 1
  let s := modFacet s e f (fun x => { x with inReset := false, absorb := false, rstDone := false })
  if !pass then facetFault s e f
  else startFacet (if isFold s e f && armed s e then fillFoldFacet s e f else s) e f

/-- Operations that run on a facet: the active one and the lanes' one. -/
def facetOps (s : State) (e : EngineId) (f : Nat) : List (EngineId × Nat) :=
  let fc := facetOf s e f
  (match fc.active with | some r => [(engineOf r.home, r.op)] | none => [])
  ++ (match fc.laneActive with | some id => [(e, id)] | none => [])

/-- End by 0x50 what runs on a facet, or what of it waits for an event outside. -/
def stopFacetOps (s : State) (e : EngineId) (f : Nat) (all : Bool) : State :=
  (facetOps s e f).foldl (fun s p => match findOp s p.1 p.2 with
    | none => s
    | some o => if all || waitsOutside s p.1 o then stopNext s p.1 o true else s) s

/-- A reset request for one facet. -/
def requestFacet (s : State) (e : EngineId) (f : Nat) (absorb : Bool) (source : Nat) : State :=
  let fc := facetOf s e f
  if (s.eng e).bring.rst.isSome || !bit (facetMask s) f then s
  else if fc.inReset then
    if absorb && !fc.absorb then stopFacetOps (modFacet s e f (fun x => { x with absorb := true })) e f true else s
  else
    let word := lastResetWord s 0 absorb source 0
    let s := s.modBring e (fun b => { b with lastReset := word })
    let s := bump (modFacet s e f (fun x => { x with inReset := true, absorb := absorb, rstDone := false })) e cntFacetResets 1
    let s := sendHome s e f
    stopFacetOps s e f absorb

/-- A facet reset is done once nothing runs on the facet. A request from the dictionary has no signal to fall: the facet is tested
and leaves reset at once. -/
def facetDone (s : State) (e : EngineId) (f : Nat) : State :=
  let fc := facetOf s e f
  if !fc.inReset || fc.rstDone || fc.active.isSome || fc.laneActive.isSome then s
  else
    let s := modFacet s e f (fun x => { x with
      rstDone := true, cells := [], filled := none, activity := 0, current := 0, lastAct := 0, autofill := false })
    if bits (s.eng e).bring.lastReset.toNat 12 11 == sourceDict && fc.powered then testFacet s e f else s

/-! ## Faults (04 R132, 15 R407) -/

/-- The other facets of the engine that take array work, from the next one upward. -/
def otherFacets (s : State) (e : EngineId) (f : Nat) : List Nat :=
  ((List.range (facetCount s - 1)).map (fun k => (f + 1 + k) % facetCount s)).filter (takesArray s e)

/-- An operation of a faulted facet: a relocatable one of the prism array goes to the next other facet upward whose queue has room, or
waits for one; any other ends with 0x50 (04 R132; which other facet takes it is the model's, notes/assumptions/60.md, DESIGN
CHOICE). -/
def moveFromFault (s : State) (e : EngineId) (f : Nat) (r : OpRef) : State :=
  let h := engineOf r.home
  match findOp s h r.op with
  | none => s
  | some o =>
    if !(o.ins.body.relocatable && isRelocatable o.ins.op && o.ins.op != 0x40) || (otherFacets s e f).isEmpty then stopOp s h o false
    else match (otherFacets s e f).find? (fun g => queueDepth s e g < 8) with
      | none => s
      | some g =>
        let s := modFacet s e f (fun x => { x with queue := x.queue.filter (· != r) })
        let s := bump (noteRelocation (modOp s h r.op (fun x => { x with facet := some (e.val, g) })) h) e cntLentFacet 1
        joinFacet s e g r

/-- Operations of isolated facets that found no room go on to other facets. -/
def drainIsolated (s : State) (e : EngineId) : State :=
  (facetIds s).foldl (fun s f =>
    if (facetOf s e f).isolated then (facetOf s e f).queue.foldl (fun s r => moveFromFault s e f r) s else s) s

/-- No fold facet, or no other facet, is left. -/
def noFacets (s : State) (e : EngineId) : Bool :=
  !(facetIds s).any (takesArray s e)
  || !(facetIds s).any (fun f => bit (facetMask s) f && isFold s e f && !(facetOf s e f).isolated)

/-- Isolate a faulted facet and settle its operations (04 R132). -/
def isolateFacet (s : State) (e : EngineId) (f : Nat) : State :=
  let refs := (facetOf s e f).queue
  let lanes := (facetOf s e f).laneQueue
  let s := raiseFor s e f evFacetFault 2 0 0 0 0
  let s := modFacet s e f (fun x => { Facet.init with isolated := true, queue := x.queue, laneQueue := [], laneActive := none })
  let s := refs.foldl (fun s r => moveFromFault s e f r) s
  let s := lanes.foldl (fun s id => match findOp s e id with
    | none => s
    | some o =>
      match halfPanes s e o, otherFacets s e f with
      | _ :: _, g :: _ => modFacet (modOp (stopAtBlock s e o) e id (fun x => { x with facet := some (e.val, g) })) e g (fun x =>
          { x with laneQueue := x.laneQueue ++ [id] })
      | _ :: _, [] => engineFault s e causeStamp
      | [], _ => stopOp s e o false) s
  let s := (s.eng e).iss.ops.foldl (fun s o => match o.work with
    | .move m => if o.facet == some (e.val, f) && m.phase != .failed then
        pumpMove 8 (failMove s e o.id 0x50 m) e o.id else s
    | _ => s) s
  if noFacets s e then engineFault s e causeNoFacets else s

/-- Handle the faults found inside a command: facets first, then the engine, whose fault is an absorbing reset. -/
def handleFaults (s : State) (e : EngineId) : State :=
  let fs := (s.eng e).bring.facetFaults
  let s := s.modBring e (fun b => { b with facetFaults := [] })
  let s := fs.foldl (fun s f => isolateFacet s e f) s
  match (s.eng e).bring.fault with
  | none => s
  | some cause =>
    let s := s.modBring e (fun b => { b with fault := none })
    requestReset (raise s e evEngineFault 3 cause) e true false true 1 sourceFault cause

/-! ## RST_DONE (01 R58-R60, 15 R405) -/

/-- Nothing of the engine is in flight any more. -/
def quiet (s : State) (e : EngineId) : Bool :=
  (s.eng e).iss.ops.isEmpty && (s.eng e).fab.jobs.isEmpty && !(s.eng e).mem.writes.any (·.accepted)
  && !tierHas s e (fun c => match c with
    | .fold _ _ _ => true
    | _ => false)

/-- Reads held for an install are answered from HBM once the engine is absent (01 R55). -/
def flushReads (s : State) (e : EngineId) : State :=
  let s := (s.eng e).mem.reads.foldl (fun s p =>
    match windowRec s e p.1 with
    | some w => agentDone s e (w.paneAt p.2 / 64) false 0 (hbm s e (w.paneAt p.2) 4096)
    | none => s) s
  s.modMem e (fun m => { m with reads := [] })

/-- A request that a tier transfer serves. -/
def TierCont.chunk : TierCont → Option Chunk
  | .source c => some c
  | .repaired _ _ c => c
  | .loaded _ _ _ _ _ c => c
  | _ => none

/-- The requests that the engine has accepted and not performed: held, at the tier, to be acknowledged after a re-encode, and gathered
without having been folded. An absorb discards the last (01 R59, 07 R196). -/
def unperformed (s : State) (e : EngineId) (absorb : Bool) : List Chunk :=
  let f := (s.eng e).fab
  f.held.map (·.chunk)
    ++ (s.group.coord.tierReqs.filter (fun t => t.engine == e.val && t.live)).filterMap (·.cont.chunk)
    ++ (s.eng e).reb.installs.flatMap (·.acks)
    ++ (if absorb then [] else (f.complete ++ f.gathers).flatMap (·.chunks))

/-- Requests not performed are answered with NAK 0x50; queued requests of the engine's own are lost, its answers go out (01 R59). -/
def flushFabric (s : State) (e : EngineId) : State :=
  let absorb := ((s.eng e).bring.rst.map (·.absorb)).getD true
  let s := (unperformed s e absorb).foldl (fun s c => nak s e c 0x50) s
  s.modFab e (fun f => { freshFabric f with egress := [], out := f.out ++ f.egress.filter (fun x => !isRequest x.chunk.k) })

/-- Writes held at the filter of an engine that does not come back into its job complete unperformed with 0x70 (01 R59). -/
def dropLate (s : State) (e : EngineId) : State :=
  let ws := (s.eng e).mem.writes
  ws.foldl (fun s x => agentDone s e x.granule true 0x70 []) (s.modMem e (fun m => { m with writes := [] }))

/-- What an engine keeps when it becomes absent: HBM, counters, arrival counters, the cold repair list, its filter entries, what it
has put out, and in a running job whether a step was being swept as it enrolled and whether a COMMIT has been released since; everything
else is cleared (15 R400, 11 R332, 10 R286). A reset during the bring-up of an engine of the job does not end that bring-up's purpose
(01 R60). -/
def goDown (s : State) (e : EngineId) (position : Position) (form1 : Bool) : State :=
  let s := abandonGroups (flushFabric (flushReads s e) e) (some e)
  let inJob := ((s.eng e).job.job.isSome || (s.eng e).bring.warm) && form1
  let s := if inJob && position != .isolated then s else dropLate s e
  let s := (s.eng e).job.slots.foldl (fun s p => if p.2.state == .free then s else freeSlot s e p.1) s
  let s := s.modCoord (fun c => { c with tierReqs := c.tierReqs.filter (fun t => t.engine != e.val) })
  s.modEng e (fun g => { g with
    bring := { g.bring with position := position, lastStage := 0, report := [], form1 := form1, warm := inJob, kat := false,
                            peers := [], unreach := 0, fault := none, facetFaults := [] }
    dict := { Dict.init with counters := g.dict.counters, latchImage := g.dict.latchImage }
    iss := { Issue.init with arrivals := g.iss.arrivals, counterOut := g.iss.counterOut, absentSeen := g.iss.absentSeen,
                             nextId := g.iss.nextId }
    mem := { g.mem with memReqs := [], presence := [], privateOn := false, writes := g.mem.writes.filter (!·.accepted), reads := [] }
    job := { JobSt.init with committed := g.job.committed, openSeq := g.job.openSeq }
    reb := { Rebuild.init with swept := inJob && g.reb.swept, firstCommit := inJob && g.reb.firstCommit }
    snap := { SnapSt.init with workRun := g.snap.workRun, topSweep := g.snap.topSweep }
    lou := { Loupe.init with nondetRel := g.lou.nondetRel, nondetNon := g.lou.nondetNon, nondetFlag := g.lou.nondetFlag || inJob,
                             drill := if form1 then g.lou.drill else Loupe.init.drill, testOut := g.lou.testOut } })

/-- Where an engine stands after a reset that is no fault's (01 R60). -/
def downPosition (s : State) (e : EngineId) : Position := if (s.eng e).bring.islandGood then .inReset else .unpowered

/-- RST_DONE of an engine's reset. A fault leaves the position isolated until software resets it (15 R407). -/
def engineDone (s : State) (e : EngineId) : State :=
  match (s.eng e).bring.rst with
  | none => s
  | some r =>
    if r.done || r.group || !quiet s e then s
    else
      let s := goDown s e (if r.fault then .isolated else downPosition s e) true
      let next := if r.signal && !r.fault then some { r with done := true } else none
      s.modBring e (fun b => { b with rst := next })

/-- What the coordinator loses in a group reset; a chip reset drops the images too (15 R400, 16 R420, R426). -/
def groupDown (s : State) (chip : Bool) : State :=
  let s := abandonGroups s none
  let s := s.modGroup (fun g => { g with
    dict := { GDict.init with images := if chip then [] else g.dict.images, counters := g.dict.counters, resp := g.dict.resp }
    ev := { Events.init with delivered := g.ev.delivered }
    health := Healths.init
    coord := { Coord.init with groupRst := g.coord.groupRst, powerEst := g.coord.powerEst, clocks := g.coord.clocks }
    lc := { g.lc with state := if g.lc.state == .service then .operate else g.lc.state, authFails := 0, lockout := false,
                      leaseEnd := 0, blowing := none } })
  { s with stepValid := false }

/-- RST_DONE of a group or chip reset: every engine is quiet. -/
def groupDone (s : State) : State :=
  match s.group.coord.groupRst with
  | none => s
  | some g =>
    if g.done || !allEngines.all (quiet s) then s
    else
      let s := forEngines allEngines (fun s e =>
        let fused := (s.eng e).bring.position == .fusedOff && !g.chip
        let s := goDown s e (if fused then .fusedOff else downPosition s e) false
        let word := if g.chip then 0 else (s.eng e).bring.lastReset
        let s := s.modBring e (fun b => { b with rst := none, lastReset := word })
        s.modIss e (fun q => { q with arrivals := [], absentSeen := [] })) s
      let s := groupDown s g.chip
      let next := if g.signal then some { g with done := true } else none
      s.modCoord (fun c => { c with groupRst := next })

/-- RST_REQ falls (15 R405). -/
def requestFalls (s : State) (level : ResetLevel) (e : EngineId) (f : Nat) : State :=
  match level with
  | .facet =>
    if (facetOf s e f).inReset && (facetOf s e f).rstDone then testFacet s e f else s
  | .engine => s.modBring e (fun b => { b with rst := match b.rst with
      | some r => if r.done then none else some { r with signal := false }
      | none => none })
  | _ => s.modCoord (fun c => { c with groupRst := match c.groupRst with
      | some g => if g.done then none else some { g with signal := false }
      | none => none })

end Sys2Proof.Machine
end

