-- ==== Sys2Proof/Machine/BringUp.lean ====
section
/-!
DEFINITION. Power, clocks and bring-up: the islands and their stagger, the seven stages, lost clocks and power, and the IEEE 1687
instruments (01 R52-R53, R60, 13 R371, 15 R391-R415, 16 R417, R419, R428).
-/

namespace Sys2Proof.Machine

open Sys2Proof

/-! ## Power (15 R394, R395) -/

def enginePresent (s : State) (e : EngineId) : Bool := bit (engineMask s) e.val

/-- Power-on: everything volatile is as right after reset; fuses, the tier's contents and the time remain. The engine islands are
requested first. -/
def powerOn (s : State) : State :=
  let fresh := { State.reset with
    pending := s.pending, time := s.time, tier := s.tier, tierBase := s.tierBase, tierLimit := s.tierLimit, freeCount := s.freeCount }
  let lc := s.group.lc
  let fresh := fresh.modLc (fun _ => { LcSt.init with
    fuses := lc.fuses, lcFuses := lc.lcFuses, keyFuses := lc.keyFuses, siliconRev := lc.siliconRev, chipId := lc.chipId
    state := if lc.state == .service then .operate else lc.state })
  forEngines allEngines (fun s e => s.modBring e (fun b => { b with
    position := if enginePresent s e then .unpowered else .fusedOff, islandReq := enginePresent s e })) fresh

def execPowerOn (s : State) : Out := .next (powerOn s)

/-- Facets that the fuses give the engine and that are not isolated. -/
def liveFacets (s : State) (e : EngineId) : List Nat :=
  (List.range 8).filter (fun f => bit (facetMask s) f && !(facetOf s e f).isolated)

/-- PWR_GOOD rises for a requested island. A facet starts its ramp with A = 0 (15 R394); one that was reset before it was powered is
tested before it takes work (15 R406). -/
def powerGood (s : State) (e : EngineId) (facet : Option (Fin 8)) : State :=
  match facet with
  | none =>
    if (s.eng e).bring.islandReq then
      s.modBring e (fun b => { b with islandGood := true, position := if b.position == .unpowered then .inReset else b.position })
    else s
  | some f =>
    if (facetOf s e f.val).requested then
      let s := modFacet s e f.val (fun x => { x with powered := true, current := 0, lastAct := 0 })
      if (facetOf s e f.val).rstDone && bits (s.eng e).bring.lastReset.toNat 12 11 == sourceDict then testFacet s e f.val else s
    else s

def execPwrGood (e : EngineId) (facet : Option (Fin 8)) (s : State) : Out := .next (powerGood s e facet)

/-- The positions whose islands are to be powered, and whether all of them are good. -/
def islandsGood (s : State) : Bool := allEngines.all (fun e => !enginePresent s e || (s.eng e).bring.islandGood)

/-- Every 2 µs the group raises PWR_REQ for the next facet, in ascending order of engine and facet (15 R394). -/
def staggerFacet (s : State) : State :=
  if !islandsGood s then s
  else
    let all := (allEngines.filter (enginePresent s)).flatMap (fun e => (liveFacets s e).map (fun f => (e, f)))
    match all.find? (fun p => !(facetOf s p.1 p.2).requested && (s.eng p.1).bring.rst.isNone) with
    | none => s
    | some (e, f) => modFacet s e f (fun x => { x with requested := true })

def execFacetPowerStagger (s : State) : Out := .next (staggerFacet s)

/-! ## The stages (15 R408-R414) -/

/-- The result of a stage in this bring-up; none where it has not been reported. -/
def stageResult (s : State) (e : EngineId) (n : Nat) : Option Nat :=
  (AList.get? (s.eng e).bring.report n).map (fun w => bits w.toNat 27 26)

def stagePassed (s : State) (e : EngineId) (n : Nat) : Bool := stageResult s e n == some 1 || stageResult s e n == some 2

/-- Stage `n` may run: its predecessor has passed and it has neither passed nor failed. -/
def stageOpen (s : State) (e : EngineId) (n : Nat) : Bool :=
  (s.eng e).bring.rst.isNone && s.group.coord.groupRst.isNone
  && (n == 0 || stagePassed s e (n - 1)) && (stageResult s e n == none || stageResult s e n == some 0)
  && ((s.eng e).bring.position == .inReset || (s.eng e).bring.position == .unpowered
      || (s.eng e).bring.position == .present)
  && enginePresent s e

def poweredFacets (s : State) (e : EngineId) : Nat := ((List.range 8).filter (fun f => (facetOf s e f).powered)).length

/-- Stage 0: the engine island and every facet of it are powered, and the domains run. -/
def stage0 (s : State) (e : EngineId) : State :=
  if !stageOpen s e 0 then s
  else
    let s := s.modBring e (fun b => { b with islandReq := true })
    if (s.eng e).bring.islandGood && (liveFacets s e).all (fun f => (facetOf s e f).powered) then
      let on := [3 * e.val, 3 * e.val + 1, 3 * e.val + 2, 36, 37, 38, 39]
      let s := s.modBring e (fun b => { b with clkEn := true, isoEn := false })
      let s := s.modCoord (fun c => { c with clocks := on.filter (fun d => !c.clocks.contains d) ++ c.clocks })
      report s e 0 1 0xff (poweredFacets s e)
    else s

def execStagePowerAndClocks (e : EngineId) (s : State) : Out := .next (stage0 s e)

/-- A PWR_GOOD later than 20 µs fails stage 0 (15 R409). -/
def powerLate (s : State) (e : EngineId) (facet : Option (Fin 8)) : State :=
  let missing := match facet with
    | none => (s.eng e).bring.islandReq && !(s.eng e).bring.islandGood
    | some f => (facetOf s e f.val).requested && !(facetOf s e f.val).powered
  if stageOpen s e 0 && missing then
    report s e 0 3 (match facet with | some f => f.val | none => 0xff) (poweredFacets s e)
  else s

def execPwrGoodLate (e : EngineId) (facet : Option (Fin 8)) (s : State) : Out := .next (powerLate s e facet)

/-- The XOR of bytes 1 to 7 of the fuse word. -/
def fuseCheck (w : Nat) : Nat := (List.range 7).foldl (fun x i => Nat.xor x (bits w (8 * i + 15) (8 * i + 8))) 0

/-- A fuse word of 15 R398, with life-cycle fuses of 16 R417. -/
def fusesValid (fuses lc : Nat) : Bool :=
  [(0, 0x0fff, 0xff, 24), (1, 0x03ff, 0xff, 24), (2, 0x0fff, 0x3f, 16)].contains
    (bits fuses 15 12, bits fuses 43 32, bits fuses 31 24, bits fuses 23 16)
  && fuseCheck fuses == bits fuses 7 0 && bits lc 2 0 != 2

/-- The life-cycle state that the fuses give; an engine reset leaves the service tier in place (16 R417, R421). -/
def lcOf (old : LifeCycle) (lc : Nat) : LifeCycle :=
  if bit lc 2 then .returned
  else if bit lc 1 then (if old == .service then .service else .operate)
  else if bit lc 0 then .provisioned else .test

/-- Stage 1 in FORM 0: counters read zero, a new challenge (14 R378, 16 R423). -/
def coldCounters (s : State) (e : EngineId) : State :=
  let s := s.modDict e (fun d => { d with counters := [] })
  let s := s.modGDict (fun d => { d with counters := [] })
  s.modLc (fun l => { l with challenges := 1, challengeT := s.time })

/-- Stage 1: fuses, life-cycle state, fused-off positions, SRAM self-test and retirement. -/
def stage1 (s : State) (e : EngineId) (fuses lcFuses : BitVec 64) (failed : List (Nat × Nat)) : State :=
  if !stageOpen s e 1 then s
  else
    let ok := fusesValid fuses.toNat lcFuses.toNat
    let s := s.modLc (fun l => { l with
      fuses := fuses, lcFuses := lcFuses, fusesOk := ok, state := if ok then lcOf l.state lcFuses.toNat else l.state })
    if !ok then report s e 1 3 0xff 0xffff
    else
      let s := if (s.eng e).bring.form1 then s else coldCounters s e
      let s := forEngines allEngines (fun s x => if enginePresent s x then s
        else s.modBring x (fun b => { b with position := .fusedOff })) s
      let bad := failed.eraseDups
      let s := s.modLou e (fun l => { l with retired := bad.take 1 })
      match bad with
      | [] => report s e 1 1 0xff 0
      | [m] => report s e 1 2 m.2 (put 1 8 8)
      | _ :: m :: _ => report s e 1 3 m.2 (put bad.length 8 8)

def execStageFusesAndSram (e : EngineId) (fuses lcFuses : BitVec 64) (failedMacros : List (Nat × Nat)) (s : State) : Out :=
  .next (stage1 s e fuses lcFuses failedMacros)

/-! ### Stage 2 (01 R20, 15 R410) -/

/-- MEMTEST_PASSES of the fuse word. -/
def testPasses (s : State) : Nat := bits s.group.lc.fuses.toNat 47 44

/-- What pass `p` writes to the granule at an address. -/
def testPattern (p a : Nat) : List Byte :=
  (List.range 64).map (fun i => BitVec.ofNat 8 (64 * a + i) ^^^ (if p % 2 == 0 then 0x55#8 else 0xaa#8))

/-- A test read failed: it was not answered with what its pass had written. -/
def testBad (r : TestRead) : Bool := r.status.all (2 ≤ ·) || r.data != testPattern r.pass r.granule

/-- A response reports an address outside the stack (01 R18). -/
def testOutside (r : TestRead) : Bool := r.status == some 3

/-- The rows that fail, in the order in which the passes meet them; with 0 passes nothing is written that a row could fail on. -/
def failingRows (s : State) (reads : List TestRead) : List Nat :=
  ((reads.filter (fun r => r.pass < testPasses s && testBad r)).map (fun r => Config.memRow r.granule)).eraseDups

/-- One repair request for each failing row, which is then tested again: how many were repaired, and whether all were. A row whose
request the controller does not grant ends the test. -/
def repairRows (e : EngineId) : List Nat → List RowRepair → State → Nat → State × Nat × Bool
  | [], _, s, n => (s, n, true)
  | r :: rows, answers, s, n =>
    let s := s.modMem e (fun m => { m with repairs := m.repairs ++ [r] })
    match answers with
    | [] => (s, n, false)
    | a :: rest => match a.spares with
      | none => (s.modMem e (fun m => { m with spareRows := 0 }), n, false)
      | some k =>
        let s := s.modMem e (fun m => { m with spareRows := k })
        if a.retest.any testBad then (s, n, false) else repairRows e rows rest s (n + 1)

/-- The memory test of FORM 0: the state, the rows repaired, and whether it passed. It leaves HBM contents undefined, read here as zero
(notes/assumptions/2.md). -/
def testStack (s : State) (e : EngineId) (reads : List TestRead) (repairs : List RowRepair) : State × Nat × Bool :=
  let s := s.modMem e (fun m => { m with hbm := [], health := [] })
  let r := repairRows e (failingRows s reads) repairs s 0
  (r.1, r.2.1, r.2.2 && !reads.any testOutside)

/-- Stage 2: the memory test of FORM 0; in FORM 1 the test reads of the presence images alone. In RETURN it ends with the zero write (15
R410, 16 R428). -/
def stage2 (s : State) (e : EngineId) (reads : List TestRead) (repairs : List RowRepair) : State :=
  if !stageOpen s e 2 || !s.group.lc.fusesOk then s
  else
    let s := s.modMem e (fun m => { m with presence := [] })
    if (s.eng e).bring.form1 then
      if reads.any (fun r => r.status.isNone || testOutside r) then report s e 2 3 0xff 0
      else report (if s.group.lc.state == .returned then s.modMem e (fun m => { m with hbm := [], health := [] }) else s) e 2 1 0xff 0
    else
      let r := testStack s e reads repairs
      report r.1 e 2 (if !r.2.2 then 3 else if r.2.1 == 0 then 1 else 2) 0xff r.2.1

def execStageMemoryPath (e : EngineId) (reads : List TestRead) (repairs : List RowRepair) (s : State) : Out :=
  .next (stage2 s e reads repairs)

/-- An image's key belongs to the group's dictionary. -/
def keyShared (k : Nat × Nat) : Bool := match findEntry k.1 k.2 with | some en => en.shared | none => false

/-- The group of an image's key. -/
def keyGroup (k : Nat × Nat) : Option Nat := match findEntry k.1 k.2 with
  | some en => if en.right == .rws then some en.group else none
  | none => none

/-- Load an image: every shadow equals its committed values, every group is CLEAN (13 R371). -/
def loadImage (s : State) (e : EngineId) (i : DictImage) : State :=
  let mine := i.words.filter (fun p => !keyShared (p.1.1, p.1.2.1))
  let shared := i.words.filter (fun p => keyShared (p.1.1, p.1.2.1))
  let bm := i.blobs.filter (fun p => !keyShared p.1)
  let bs := i.blobs.filter (fun p => keyShared p.1)
  let merge := fun (old new : RegFile) => new ++ old.filter (fun p => !new.any (fun q => q.1 == p.1))
  let mergeB := fun (old new : BlobFile) => new ++ old.filter (fun p => !new.any (fun q => q.1 == p.1))
  let s := s.modDict e (fun d => { d with
    regs := mine, shadow := mine, blobs := bm, shadowBlobs := bm, groups := [], asm := none, stagedMap := none, oldUpdate := none
    digest := blake3 (updateContent (isSix s) mine bm) })
  s.modGDict (fun d => { d with
    regs := merge d.regs shared, shadow := merge d.shadow shared, blobs := mergeB d.blobs bs
    shadowBlobs := mergeB d.shadowBlobs bs, images := AList.set d.images e.val i })

/-- The groups for which an image gives values, with their scopes. -/
def imageGroups (e : EngineId) (i : DictImage) : List (Scope × Nat) :=
  let keys := i.words.map (fun p => (p.1.1, p.1.2.1)) ++ i.blobs.map (·.1)
  ((List.range 13).filter (fun g => keys.any (fun k => keyGroup k == some g))).map (fun g =>
    (if groupShared g then none else some e, g))

/-- Stage 3: the dictionary image; a cold bring-up makes the position present (15 R409, 01 R60). -/
def stage3 (s : State) (e : EngineId) (i : DictImage) : State :=
  if !stageOpen s e 3 || s.group.lc.state == .returned then s
  else if i.format != reg s e regDictFormat then report s e 3 3 0xff 0
  else
    let s := loadImage s e i
    let n := (i.words.length + i.blobs.length) % 65536
    let bad := (imageGroups e i).findSome? (fun p => (validate s p.1 p.2).map (fun r => (p.1, p.2, r)))
    match bad with
    | some (sc, g, r) =>
      report (setStat s sc g { groupStat s sc g with mode := .rejected, reason := r.reason, check := r.check }) e 3 3 g n
    | none =>
      let s := report s e 3 1 0xff n
      if (s.eng e).bring.form1 && (s.eng e).bring.warm then s else s.modBring e (fun b => { b with position := .present })

def execStageDictionaryImage (e : EngineId) (image : DictImage) (s : State) : Out := .next (stage3 s e image)

/-! ### Stage 4 -/

/-- The peers of an engine in a blob's map: the other members of its set. -/
def peersIn (s : State) (b : JobBlob) : List Nat :=
  match b.map.place s.group.lc.chipId with
  | none => []
  | some (t, _) => (t.members.map (·.chip)).filter (· != s.group.lc.chipId)

/-- Ask a peer: one MIRROR_REQ with the staged blob's JOB_ID and MAP_GEN, outside the replay buffer (15 R411; the tag and SEQ of
this handshake are the model's, notes/assumptions/26.md, DESIGN CHOICE). -/
def askPeer (s : State) (e : EngineId) (b : JobBlob) (chip : Nat) : State :=
  let c := { rawChunk s e chip e.val 3 kindMirrorReq (placeOf 0 0 0 0) 0 0 [] with jobId := b.map.jobId, mapGen := b.map.gen }
  post s e [chip] c.seal

/-- The handshake ends once no peer is awaited. -/
def endPeers (s : State) (e : EngineId) : State :=
  let b := (s.eng e).bring
  if b.peers.isEmpty then report s e 4 (if b.unreach == 0 then 1 else 3) 0xff b.unreach else s

/-- The job blob that stage 4 works on: one already staged, or the image's. -/
def stageImageBlob (s : State) (e : EngineId) : State × Bool :=
  match (s.eng e).job.staged, (AList.get? s.group.dict.images e.val).bind (·.job) with
  | some _, _ => (s, true)
  | none, none => (s, true)
  | none, some bs =>
    let (s, a) := stageBlob s e bs
    (s, a.code == 0)

/-- Stage 4: the job blob and the peers (15 R409, R411). Without a blob it waits. -/
def stage4 (s : State) (e : EngineId) : State :=
  if !stageOpen s e 4 || s.group.lc.state == .returned || !(s.eng e).bring.peers.isEmpty then s
  else
    let (s, ok) := stageImageBlob s e
    if !ok then report s e 4 3 0xff 0
    else match (s.eng e).job.staged with
      | none => report s e 4 0 0xff 0
      | some b =>
        if (s.eng e).bring.form1 then report s e 4 1 0xff 0
        else
          let ps := peersIn s b
          let s := s.modBring e (fun x => { x with peers := ps, unreach := 0 })
          endPeers (ps.foldl (fun s p => askPeer s e b p) s) e

def execStageStripeMapAndPeers (e : EngineId) (s : State) : Out := .next (stage4 s e)

/-- A peer is unreachable. -/
def peerLost (s : State) (e : EngineId) (chip : Nat) : State :=
  if (s.eng e).bring.peers.contains chip then
    endPeers (s.modBring e (fun b => { b with peers := b.peers.filter (· != chip), unreach := b.unreach + 1 })) e
  else s

/-- A peer has answered: NAK 0x70 counts for nothing yet (15 R411). -/
def peerAnswered (s : State) (e : EngineId) (c : Chunk) : State :=
  let chip := c.srcChip.toNat
  if !(s.eng e).bring.peers.contains chip || (c.k == kindNak && c.status.toNat == 0x70) then s
  else endPeers (s.modBring e (fun b => { b with peers := b.peers.filter (· != chip) })) e

/-- PEER_RETRY: an absent peer is asked again, or given up after CHILD_TIMEOUT (15 R411). -/
def peerRetry (s : State) (e : EngineId) (chip : Nat) (expired : Bool) : State :=
  if !(s.eng e).bring.peers.contains chip then s
  else if expired then peerLost s e chip
  else match (s.eng e).job.staged with
    | some b => askPeer s e b chip
    | none => s

def execPeerRetry (e : EngineId) (chip : BitVec 13) (expired : Bool) (s : State) : Out := .next (peerRetry s e chip.toNat expired)

/-- A resend timeout toward a peer: the eighth in a row makes it unreachable. -/
def peerTimeout (s : State) (e : EngineId) (chip : Nat) : State :=
  let s := countTimeout s e chip e.val 3
  if isStopped s e chip e.val 3 then peerLost s e chip else peerRetry s e chip false

/-! ### Stages 5 and 6 -/

/-- Stage 5: facets that fail are isolated (15 R412). It runs while stage 4 waits for a blob, so that an un-armed group can finish
it (R413). -/
def stage5 (s : State) (e : EngineId) (failed : Nat) (portOk : Bool) : State :=
  let four := stagePassed s e 4 || stageResult s e 4 == some 0
  let opened := (s.eng e).bring.rst.isNone && s.group.coord.groupRst.isNone && four && !(s.eng e).bring.kat
    && stageResult s e 5 != some 3 && s.group.lc.state != .returned
  if !opened then s
  else
    let bad := (facetIds s).filter (fun f => bit failed f)
    let s := bad.foldl (fun s f => modFacet s e f (fun x => { x with isolated := true, powered := false, requested := false })) s
    let mask := bad.foldl (fun n f => n + 2 ^ f) 0
    if noFacets s e || !portOk then report s e 5 3 0xff mask
    else (report s e 5 (if bad.isEmpty then 1 else 2) 0xff mask).modBring e (fun b => { b with kat := true })

def execStageKnownAnswerTest (e : EngineId) (failedFacets : BitVec 8) (portOk : Bool) (s : State) : Out :=
  .next (stage5 s e failedFacets.toNat portOk)

/-- The newest committed generation of an image: its stripe map, or the job blob's. -/
def newestMap (s : State) (e : EngineId) (b : JobBlob) : StripeMap × List Byte :=
  match (AList.get? s.group.dict.images e.val).bind (fun i => AList.get? i.blobs regMapStage) with
  | some bs => let m := (parseMap bs).1
               if sameJobMap m b.map then (m, bs) else (b.map, b.mapBytes)
  | none => (b.map, b.mapBytes)

/-- Reload the presence map from the images (03 R100). -/
def reloadPresence (s : State) (e : EngineId) : State :=
  let rows := ((myWindows s e).filter Window.isHot).flatMap (fun w =>
    ((List.range w.length).filter (fun r => bit (hbmNat s e (w.bitAt r) 1) (r % 8))).map (fun r => (w.number, r)))
  s.modMem e (fun m => { m with presence := rows })

/-- An enrolled spare whose rebuild is unfinished opens its ranges again. What it knows of the first COMMIT since its enrolment it has
kept. -/
def reopenRebuild (s : State) (e : EngineId) : State :=
  let st := (mySlot s e).bind (fun sl => (memberAt s e sl).map (·.state))
  let open_ := ((myWindows s e).filter (fun w => w.cls != 1 && !windowRebuilt s e w)).map (fun w =>
    (w.number, ({ window := w.number, first := 0, last := w.length - 1, local_ := false } : DegradedRange)))
  if st == some 1 then s.modReb e (fun r => { r with ranges := open_, enrolled := true, sweptSince := true })
  else s.modReb e (fun r => { r with firstCommit := true })

/-- Stage 6 after an engine reset: the engine re-arms into the running job (15 R414, 09 R254). -/
def rearm (s : State) (e : EngineId) : State :=
  let b := (s.eng e).bring
  match (s.eng e).job.staged with
  | none => s
  | some j =>
    if !(b.form1 && b.warm && b.kat && stagePassed s e 4) || !stageOpen s e 6 then s
    else
      let (m, bs) := newestMap s e j
      let s := withJob s e { j with map := m, mapBytes := bs }
      let moved := (s.eng e).job.committed < s.group.coord.stepC
      let s := s.modJob e (fun x => { x with committed := s.group.coord.stepC })
      let s := s.modReb e (fun r => { r with firstCommit := r.firstCommit || moved })
      let s := s.modFab e (fun f => { freshFabric f with mustCommit := some m.gen })
      let s := s.modMem e (fun x => { x with filter := filterOf m e, privateOn := reg s e regAccRegionSize != 0 })
      let s := reloadPresence s e
      let s := s.modJob e (fun x => { x with decided := decisionsOf s e })
      let s := reopenRebuild s e
      let s := readManifests (fillFold s e) e
      let s := report s e 6 1 0xff m.gen.toNat
      s.modBring e (fun x => { x with position := .present, warm := false })

/-! ## Losses (15 R393, R407) -/

/-- The engine island loses power, or one of its clocks stops: an engine fault of a present engine. An absent position raises no record
(01 R54). -/
def islandFault (s : State) (e : EngineId) (cause : Nat) : State :=
  if present s e then handleFaults (engineFault s e cause) e else s

/-- CLOCK_LOST of a running domain is a fault of its engine or of the group; of one that has not come up, the failure of its engine's
stage 0 (15 R393, R409). -/
def clockLost (s : State) (d : Nat) : State :=
  if !s.group.coord.clocks.contains d then
    (if d < 36 && stageOpen s (engineOf (d / 3)) 0 then report s (engineOf (d / 3)) 0 3 0xff (poweredFacets s (engineOf (d / 3))) else s)
  else
    let s := s.modCoord (fun c => { c with clocks := c.clocks.filter (· != d) })
    if d < 36 then islandFault s (engineOf (d / 3)) causeClock
    else if d < 39 then requestGroup s true false sourceFault
    else s

def execClockLost (domain : Fin 40) (s : State) : Out := .next (clockLost s domain.val)

def powerLost (s : State) (e : EngineId) : State :=
  if !(s.eng e).bring.islandGood then s
  else
    let s := s.modBring e (fun b => { b with
      islandGood := false, isoEn := true, position := if b.position == .inReset then .unpowered else b.position })
    islandFault s e causePower

def execPowerLost (e : EngineId) (s : State) : Out := .next (powerLost s e)

/-! ## IEEE 1687 (01 R53, 16 R419) -/

/-- The instruments a life-cycle state opens. -/
def instrumentOpen (s : State) (i : Instrument) : Bool :=
  let job := allEngines.any (armed s)
  let l := s.group.lc.state
  match i with
  | .sramSelfTest _ _ | .knownAnswer _ | .fuseReader =>
    !((l == .operate || l == .service) && job)
  | .trace => l != .operate
  | .scan _ _ | .sramFlipMask _ _ _ _ => l == .test || l == .returned

/-- What an open instrument shows or does: a self-test's outcome and scanned or traced bits are free values; the coefficient
registers in a facet's chain and the fuse word read as they are; the flip-mask damages an SRAM word. -/
def useInstrument (s : State) (e : EngineId) (i : Instrument) : State :=
  let show_ := fun (s : State) (bs : List Byte) => s.modLou e (fun l => { l with testOut := l.testOut ++ [bs] })
  let outcome := fun (s : State) => show_ (useFree s 1) [if Config.selfTestPasses s.freeCount then 1 else 0]
  match i with
  | .sramSelfTest _ _ => outcome s
  | .knownAnswer _ => outcome s
  | .scan (.facet f) c => if c < 192 then show_ s (leBytes ((AList.getD (facetOf s e f.val).cells c 0).toNat) 3)
                          else show_ (useFree s 3) (freeBytes s.freeCount 3)
  | .scan _ _ => show_ (useFree s 3) (freeBytes s.freeCount 3)
  | .trace => show_ (useFree s 64) (freeBytes s.freeCount 64)
  | .fuseReader => show_ s (leBytes s.group.lc.fuses.toNat 8)
  | .sramFlipMask st w off mask =>
    let old := wordErrors s e st w
    let new := (flipErrors off mask.toNat).foldl (fun es p => AList.set es p.1 (AList.getD es p.1 0 ^^^ p.2)) old
    setWordErrors s e st w (new.filter (fun p => p.2 != 0))

def execIeee1687Access (e : EngineId) (instrument : Instrument) (s : State) : Out :=
  if instrumentOpen s instrument then .next (useInstrument s e instrument) else .next s

end Sys2Proof.Machine
end

