-- ==== Sys2Proof/Machine/Receive.lean ====
section
/-!
DEFINITION. A fabric chunk arrives: the stub responder (01 R56), the checks of a request and of a response (01 R32, R34, R36, 09
R252), requests that wait, what performs each kind, and what each response does for the operation that asked (01 R36, 07 R433, 09
R246, R253, R266).
-/

namespace Sys2Proof.Machine

open Sys2Proof

/-! ## The stub responder (01 R56) -/

/-- A chunk for an absent position: a request is answered with NAK 0x70 in this chip's name (DST_CHIP of a multicast names
the local holder alone, 06 R181), a response is discarded and counted; a chunk that is not valid is discarded (01 R32). -/
def stubChunk (s : State) (e : EngineId) (c : Chunk) : State :=
  if !crcGood c || badChunk c then s
  else if isRequest c.k then
    let r := { c with dstChip := c.srcChip, dstEngine := c.srcEngine, srcChip := BitVec.ofNat 13 (chipId s),
                      srcEngine := BitVec.ofNat 4 e.val, kind := BitVec.ofNat 6 kindNak, status := 0x70, length := 0, ext := 0, payload := [] }
    s.modFab e (fun f => { f with out := f.out ++ [{ dest := [c.srcChip.toNat], chunk := r.seal }] })
  else gbump s cntStubDiscards 1

/-! ## Arbitration (11 R314) -/

/-- The entry that mirrors a data pane of this member at a chip. -/
def mirrorAt (s : State) (e : EngineId) (window row chip : Nat) : Option Nat :=
  let q := dataIndexOf (geo s e) (ownSlot s e) row
  (mirEntries s e).find? (fun i =>
    let m := mirEntry s e i
    m.valid && m.window == window && m.slot == ownSlot s e && m.chip == chip && (mySet s e).any (fun t => t.id == m.setId)
      && m.first ≤ q && q < m.first + m.count)

/-- An arbitration of a pane runs, its full-row check included. -/
def arbitrates (s : State) (e : EngineId) (window row : Nat) : Bool :=
  (s.eng e).reb.installs.any (fun n => n.window == window && n.row == row && match n.purpose with
    | .arbitrate _ _ _ _ => true
    | .rowCheck _ d _ => d.isSome
    | _ => false)

/-- Perform a MIRROR_REQ with ARBITRATE at the owner: acknowledged at once, and the pane is arbitrated unless it is already. -/
def performArbitrate (s : State) (e : EngineId) (c : Chunk) : State :=
  match mirTarget s e c with
  | none => untranslated s e c
  | some w =>
    let s := answer s e c kindSAck 0 c.step.toNat []
    if arbitrates s e w.number c.row then s
    else
      let chip := c.srcChip.toNat
      let id := (s.eng e).iss.nextId
      match mirrorAt s e w.number c.row chip with
      | none => newInstall s e (.arbitrate 0 chip none true) w.number c.row c.column 0 true
      | some i =>
        let s := newInstall s e (.arbitrate i chip none false) w.number c.row c.column 0 true
        request s e (.install id) chip e.val 3 kindMirrorReq (placeOf w.number c.row c.column 0) (s.eng e).job.committed
          (mirExt true true false true 0 0) []

/-! ## Requests that wait -/

/-- The engine still performs the abort scan of its reset, or re-encodes rows that the records of its holders name (07 R210, 09
R254). -/
def scanRuns (s : State) (e : EngineId) : Bool :=
  (!(s.eng e).job.abortFrom.isEmpty && !(s.eng e).iss.ops.any (fun o => match o.work with | .abort _ => true | _ => false))
  || (s.eng e).reb.installs.any (fun n => n.purpose == .rowCheck none none true)

/-- A fold of this row is in progress in the tier (07 R196, 08 R232). -/
def foldRuns (s : State) (e : EngineId) (window row : Nat) : Bool :=
  (s.eng e).fab.complete.any (fun g => g.window == window && g.row == row && tierHas s e (fun t => match t with
    | .foldRead v a b => gatherKey v a b g
    | .fold v a b => gatherKey v a b g
    | _ => false))

/-- A tier write of a cold pane or its ledger entry is in progress. -/
def tierWriting (s : State) (e : EngineId) (w : Window) (row : Nat) : Bool :=
  !w.isHot && s.group.coord.tierReqs.any (fun t => t.engine == e.val && t.live && t.write
    && (overlap (t.addr, t.length) (w.paneAt row, 4096) || overlap (t.addr, t.length) (w.ledgerAt row, 8)))

/-- A pane is being written here: it is in the update path, or a cold one is being written in the tier. A cold pane whose delta awaits its
acknowledgements is read at once (08 R233, 09 R263). -/
def beingWritten (s : State) (e : EngineId) (w : Window) (row : Nat) : Bool :=
  if w.isHot then paneInFlight s e w.number row else tierWriting s e w row

/-- Why a DREAD_REQ waits: a write or fold in progress (09 R263), or a pane that is an erasure (11 R320). -/
def dreadWait (s : State) (e : EngineId) (c : Chunk) : State × Option HoldWhy :=
  match dreadTarget s e c with
  | none => (s, none)
  | some (w, _) =>
    if 2 ≤ c.x 28 27 || rowHeld s e w.number c.row || paneLost s e w.number c.row then (s, none)
    else if beingWritten s e w c.row || foldRuns s e w.number c.row then (s, some .busy)
    else if inLocalRange s e w.number c.row then (s, some .install)
    else
      let (s, ok) := checkRow s e w c.row
      (s, if ok then none else some .install)

/-- Why a MIRROR_REQ to the owner waits (06 R185, R186, 07 R212). -/
def mirrorWait (s : State) (e : EngineId) (c : Chunk) : State × Option HoldWhy :=
  match mirTarget s e c with
  | none => (s, none)
  | some w =>
    let rows := mirRows s e c
    if (s.eng e).job.committed < c.step.toNat then (s, some .commit)
    else if rows.any (notReadable s e w) then (s, none)
    else if rows.any (paneInFlight s e w.number) then (s, some .busy)
    else
      let r := panesUsable s e (rows.map (fun r => (w, r)))
      (r.1, if r.2 == .wait then some .install else none)

/-- Why a request that has passed its checks cannot be performed yet. -/
def waitWhy (s : State) (e : EngineId) (c : Chunk) : State × Option HoldWhy :=
  if scanRuns s e then (s, some .busy)
  else if byColumn c.k then (s, if gatherBusy s e c then some .gather else none)
  else if c.k == kindAccum then (s, if accVerdict s e c == .wait then some .slotOpen else none)
  else if c.k == kindDreadReq then dreadWait s e c
  else if c.k == kindSum then (s, if c.x 7 7 == 1 && paneInFlight s e c.window c.row then some .busy else none)
  else if c.k == kindMirrorReq && c.x 27 27 == 0 && c.x 25 25 == 0 then mirrorWait s e c
  else (s, none)

/-- Perform a request. -/
def perform (s : State) (e : EngineId) (c : Chunk) : State :=
  if byColumn c.k then performGather s e c
  else if c.k == kindAccum then performAccum s e c
  else if c.k == kindDreadReq then performDread s e c
  else if c.k == kindSum then (if c.x 7 7 == 1 then performHandoff s e c else performSum s e c)
  else if c.k == kindRestore then performXfer s e c
  else if c.k == kindMirrorReq then
    (if c.x 27 27 == 1 then serveMirror s e c else if c.x 25 25 == 1 then performArbitrate s e c else serveOwn s e c)
  else s

/-- A request begins to wait; waiting for a group counts its cycles (05 R149), waiting for an install its read (09 R278). -/
def noteWait (s : State) (e : EngineId) (c : Chunk) (why : HoldWhy) : State :=
  let s := if why == .slotOpen then bumpCycles s e cntAccOpenWaitCycles 0 else s
  if why == .install && c.k == kindMirrorReq then bump s e cntDegradedReads 1 else s

def keepWaiting (s : State) (e : EngineId) (c : Chunk) (why : HoldWhy) : State := keepHeld (noteWait s e c why) e c why

/-- A request whose turn has come: behind an earlier one of its flow, waiting, or performed. -/
def takeRequest (s : State) (e : EngineId) (c : Chunk) : State :=
  if flowWaits s e c then keepHeld s e c .behind
  else match waitWhy s e c with
    | (s, some why) => keepWaiting s e c why
    | (s, none) => perform s e c

/-- Try a held request again: the first of its flow, whose generation is in force. One that now breaks 07 R192 is discarded with
what follows it in its flow, and expected again. -/
def retryOne (s : State) (e : EngineId) (h : Held) : State :=
  let same := fun (x : Held) => rxKey x.chunk == rxKey h.chunk && x.chunk.mapGen == h.chunk.mapGen
  let c := h.chunk
  let remove := fun (s : State) => s.modFab e (fun f => { f with held := f.held.erase h })
  if ((s.eng e).fab.held.find? same) != some h then s
  else if !armed s e || c.jobId != jobIdOf s e then nak (remove s) e c 0x11
  else if c.mapGen != genOf s e && isGenHeld h then s
  else if byColumn c.k && breaksPane s e c then
    let s := s.modFab e (fun f => { f with held := f.held.filter (fun x => !same x) })
    bump (setRxFlow s e { rxFlow s e (rxKey c) c.mapGen with expected := c.seq, gapSent := false }) e cntBadKind 1
  else match waitWhy s e c with
    | (s, some why) =>
      if h.why == why then s
      else (noteWait s e c why).modFab e (fun f => { f with held := f.held.map (fun x => if x == h then { x with why := why } else x) })
    | (s, none) => perform (remove s) e c

/-- Try every held request, in the order of the ingress processing slots (01 R29). -/
def retryHeld (s : State) (e : EngineId) : State := (ingressOrder s e).foldl (fun s h => retryOne s e h) s

/-! ## A request arrives (01 R32, R34, 09 R252) -/

/-- Hold a request of the next generation, or refuse it where the channel's buffer is full (01 R34). -/
def holdGen (s : State) (e : EngineId) (c : Chunk) : State :=
  let n := ((s.eng e).fab.held.filter (fun h => isGenHeld h && h.chunk.vc == c.vc)).length
  if holdLimit c.vc.toNat ≤ n then nak s e c 0x12
  else bump (keepHeld s e c (.gen c.mapGen)) e cntGenHolds 1

/-- A duplicate of a request that waits is discarded; the response of one that was answered is repeated (01 R32, 05 R149). -/
def repeatAnswer (s : State) (e : EngineId) (r : Option Chunk) : State :=
  match r with
  | some r => post s e [r.dstChip.toNat] r
  | none => s

/-- A valid request reaches the engine. -/
def receiveRequest (s : State) (e : EngineId) (c : Chunk) : State :=
  if (s.eng e).fab.mustCommit.isSome then nak s e c 0x12
  else match verdict s e c with
    | .foreign inTurn => nak (if inTurn then advanceFlow s e c else s) e c 0x11
    | .otherGen => nak s e c 0x12
    | .duplicate r => repeatAnswer s e r
    | .gap x first =>
      if first then
        sendResend (setRxFlow s e { rxFlow s e (rxKey c) c.mapGen with gapSent := true }) e c x
      else s
    | .oldEpoch => nak (advanceFlow s e c) e c 0x12
    | .hold => holdGen (advanceFlow s e c) e c
    | .take_ =>
      if byColumn c.k && breaksPane s e c && !flowWaits s e c then bump s e cntBadKind 1
      else takeRequest (advanceFlow s e c) e c

/-! ## A response arrives (01 R36) -/

/-- A holder refuses a repair of its row: it is awaited no longer for any chunk of it, and its chip is reported (07 R433). -/
def repairRefused (s : State) (e : EngineId) (owner : Owner) (c : Chunk) : State :=
  let chip := c.srcChip.toNat
  lossSuspect (unawait s e (fun q => q.owner == owner && byColumn q.chunk.k) chip) e chip c.srcEngine.toNat c.vc.toNat

/-- A NAK that refuses a delta for good. -/
def refuses (r c : Chunk) : Bool := c.k == kindNak && (c.status == 0x11 || c.status == 0x60) && byColumn r.k

/-- The response that answers a request of an install: a source's freeze or segment, a digest, a refusal. -/
def installAnswer (s : State) (e : EngineId) (id : Nat) (r c : Chunk) : State :=
  let chip := c.srcChip.toNat
  let refused := c.k == kindNak
  if r.k == kindDreadReq then
    if 2 ≤ r.x 28 27 then (if refused then s else recordAnswer s e id r.column c)
    else if refused then sourceRefused s e id chip
    else if r.x 28 27 == 0 then chainAck s e id chip c.status.toNat c.step.toNat
    else gatherResp s e id r.granule c
  else if r.k == kindMirrorReq then
    modInstall s e id (fun n => match n.purpose with
      | .arbitrate i ch _ _ => { n with purpose := .arbitrate i ch (if refused then none else some (slice c.payload 0 32)) true }
      | _ => n)
  else if refuses r c then repairRefused s e (.install id) c
  else s

/-- A response to a request of an operation: COMPARE's digests; a NAK is a cause of its status, and one to RESTORE_XFER ends the
LOAD with it (10 R299, R300, 12 R354). -/
def opAnswer (s : State) (e : EngineId) (id : Nat) (r c : Chunk) : State :=
  if c.k == kindNak then
    (if r.k == kindRestore then endWork s e id c.status.toNat else addCause s e id c.status.toNat)
  else if r.k == kindMirrorReq then compareResp s e id r c
  else s

/-- A response ends its request, and tells the one who asked. One from a holder that is awaited no longer says nothing. -/
def deliver (s : State) (e : EngineId) (r : Request) (c : Chunk) : State :=
  let chip := c.srcChip.toNat
  let st := c.status.toNat
  if r.column.isSome && !r.awaited.any (·.2 == chip) then s
  else
  let s := settleReq s e r chip
  match r.owner with
  | .job id =>
    if refuses r.chunk c then
      refusePane s e id chip c.srcEngine.toNat c.vc.toNat st
    else
      let s := if c.k == kindNak && st != 0x30 && st != 0x31 then
          (match (jobOf s e id).map (·.owner) with
           | some (.op o) => addCause s e o st
           | _ => s)
        else s
      tryFinish s e id
  | .op id => opAnswer s e id r.chunk c
  | .install id => installAnswer s e id r.chunk c
  | .fetch id => modFetch s e id (fun f => if c.k == kindNak then { f with refused := some st } else f.join r.chunk c)
  | .repair _ _ => if refuses r.chunk c then repairRefused s e r.owner c else s
  | .write _ => s
  | .standing => s

/-- A valid response reaches the engine. NAK 0x12 and 0x70 leave the request unanswered (09 R246, R253). -/
def receiveResponse (s : State) (e : EngineId) (c : Chunk) : State :=
  let chip := c.srcChip.toNat
  if c.k == kindResend then resendFrom s e c
  else if !armed s e && (s.eng e).bring.peers.contains chip then peerAnswered s e c
  else match matchReq s e c with
    | none => bump s e cntUnmatchedResponses 1
    | some r =>
      if c.k == kindNak && c.status == 0x70 then stubRefused s e r chip
      else
        let s := destAnswered s e chip r.chunk.dstEngine.toNat r.chunk.vc.toNat
        if c.k == kindNak && c.status == 0x12 then staleNak s e r c else deliver s e r c

/-- A chunk arrives at an engine position (01 R27-R36). The fabric delivers none to a present engine whose channel advertises no
credit (01 R28): such a command changes nothing. -/
def receive (s : State) (e : EngineId) (c : Chunk) : State :=
  if !present s e then stubChunk s e c
  else if ingressCredits s e c.vc.toNat == 0 then s
  else if !crcGood c then bumpAt s e cntCrcFails c.vc.toNat 1
  else
    let s := arrived s e c
    if badChunk c then bump s e cntBadKind 1
    else if isRequest c.k then receiveRequest s e c
    else receiveResponse s e c

end Sys2Proof.Machine
end

