-- ==== Sys2Proof/Machine/Settle.lean ====
section
/-!
DEFINITION. What goes on by itself once its inputs are there: installs, checks and drills that have gathered what they read (09
R264-R270, 11 R315-R320, 14 R389), rows that a spare reconciles, fetched panes, and every operation that waited.
-/

namespace Sys2Proof.Machine

open Sys2Proof

/-! ## Installs that have what they read -/

/-- What an install writes: a gradient pane by 07 R202; a pane of a row with torn writes from the row's data columns as they are resolved
(07 R218). -/
def installContent (s : State) (e : EngineId) (n : Install) (w : Window) : List Byte :=
  if w.cls == 1 then n.gradientContent (geo s e).k
  else if n.torn == 0 then n.content
  else if (geo s e).isData n.column then n.whole s e (n.mask s e) n.column
  else encodeOf (geo s e) (n.whole s e (n.mask s e)) n.column

/-- An install of a row in which holders differ: the kept values are installed, every holder that has another one is re-encoded (07
R218). -/
def installTorn (s : State) (e : EngineId) (n : Install) (w : Window) (keepers : List (Nat × Nat)) : State :=
  let o := geo s e
  let pane := n.whole s e (n.mask s e)
  let late := (n.holdersIn s e (n.mask s e)).filter (tornAt o keepers)
  let s := settleInstalled (installPane (tornWrite s e n) e n (installContent s e n w)) e w.number n.row
  let s := late.foldl (fun s p => repairColumn s e n w p (encodeOf o pane p)) s
  modInstall s e n.id (fun x => { x with phase := .repairing })

/-- Install and release. A cold pane is stamped and released when its tier write has ended (09 R270). -/
def completeInstall (s : State) (e : EngineId) (n : Install) (w : Window) : State :=
  let s := settleInstalled (installPane s e n (installContent s e n w)) e w.number n.row
  let s := if n.allAbsent && n.purpose == .coldRepair then unlistRepair s e n.window n.row else s
  if w.isHot || n.allAbsent then release s e n else modInstall s e n.id (fun x => { x with phase := .repairing })

/-- A pane that a spare may rebuild from a row with torn writes. -/
def completeSpare (s : State) (e : EngineId) (n : Install) (w : Window) : State :=
  match n.keepers s e (n.mask s e) with
  | [] => completeInstall s e n w
  | ks => installTorn s e n w ks

/-- A row of a drill copy: the walk, and the comparison of CHECK (12 R346, R347). -/
def completeDrillOp (s : State) (e : EngineId) (n : Install) (w : Window) (op idx : Nat) : State :=
  match rowsWork s e op with
  | none => release s e n
  | some r => match r.out with
    | none => release s e n
    | some walk =>
      if walkRowTouches s e walk idx then release (endPass s e op 0x60) e n
      else if !walk.rowInside idx then release (endPass s e op 0x40) e n
      else
        let s := noteWrite (writeWalk s e walk idx n.content) e 3 (some op) walk idx
        let s := match (if r.check then firstDiff n.content (rowBytes s e w n.row) else none) with
          | some g => noteMismatch s e op idx g
          | none => s
        release s e n

/-- A scrubbed row: a match is counted, a mismatch is an alert and has its row checked (11 R317, R318). -/
def completeVerify (s : State) (e : EngineId) (n : Install) (w : Window) (op : Option Nat) (reencode : Bool) : State :=
  if n.content == rowBytes s e w n.row then release (bump s e cntScrubRows 1) e n
  else
    let s := digestMismatch (bump s e cntScrubMismatches 1) e
    let s := match op with
      | some o => addCause s e o 0x40
      | none => s
    recheck s e n (.rowCheck op none reencode)

/-- The pane of the drill region that a drill row uses (14 R389; the choice is the model's, notes/assumptions/30.md, DESIGN CHOICE). -/
def drillPane (s : State) (e : EngineId) (n : Install) : Nat :=
  (reg s e regDrillRegionBase + n.id % max 1 (reg s e regDrillRegionPanes)) * 4096

/-- A drill row: the result goes to the drill region and is compared with the stored pane; a mismatch has its row checked (14
R389, R390). -/
def completeDrill (s : State) (e : EngineId) (n : Install) (w : Window) : State :=
  let s := storeMem s e 3 none (drillPane s e n) n.content
  let own := rowBytes s e w n.row
  let bad := (n.content.zip own).findIdx? (fun p => p.1 != p.2)
  let s := bump s e cntDrillRows 1
  let s := s.modLou e (fun l => { l with drill := { l.drill with rows := l.drill.rows + 1 } })
  match bad with
  | none => release s e n
  | some b =>
    let s := raise (bump s e cntDrillMismatches 1) e evDrillFailed 2 (argsRow n.window n.row + put b 12 32)
    let s := s.modLou e (fun l => { l with drill := { l.drill with mismatches := l.drill.mismatches + 1 } })
    recheck s e n (.rowCheck none none false)

/-- An operation has everything it reads. -/
def completeRead (s : State) (e : EngineId) (n : Install) : State :=
  match windowRec s e n.window with
  | none => release s e n
  | some w => match n.purpose with
    | .install _ => completeSpare s e n w
    | .opRow _ => completeSpare s e n w
    | .coldRepair => completeInstall s e n w
    | .erasure g =>
      if w.cls == 1 && n.topTag ≤ (s.eng e).job.committed then release (erasureDone (zeroGradient s e w n.row) e n g) e n
      else erasureDone (completeInstall s e n w) e n g
    | .drillOp op idx => completeDrillOp s e n w op idx
    | .verify op reencode => completeVerify s e n w op reencode
    | .drill => completeDrill s e n w
    | .decode _ _ => s
    | .arbitrate _ _ digest given => if given then arbitrateRow s e n w digest else s
    | .rowCheck op d reencode => actOnRow s e n w op d reencode
    | .reconcile _ step => reconcileRow s e n w step

/-- A row of REBUILD or VERIFY is done with its last install or check. -/
def opRowEnded (s : State) (e : EngineId) (n : Install) : State :=
  match purposeOp n.purpose with
  | some op => if (rowsWork s e op).isSome && !rowRuns s e op then rowDone s e op else s
  | none => s

/-- Every release is answered: the operation is gone. -/
def endInstall (s : State) (e : EngineId) (n : Install) : State :=
  let s := if isReconcile n && !n.finals.isEmpty then bump s e cntRowsReconciled 1 else s
  opRowEnded (dropInstall s e n.id) e n

/-- Go on with one install. One that writes a pane waits for an aperture's copy (10 R285). -/
def settleInstall (s : State) (e : EngineId) (id : Nat) : State :=
  match findInstall s e id with
  | none => s
  | some n => match n.phase with
    | .waiting => if startable s e n then startInstall s e n else s
    | .reading => if n.ready s e && !(writesPane n && copyRuns s e) then completeRead s e n else s
    | .handing =>
      match n.purpose with
      | .reconcile _ step =>
        if (n.lost s e).all (fun j => (AList.get? n.finals j).isSome) && installQuiet s e n then reencodeRow s e n step else s
      | _ => s
    | .repairing => if installQuiet s e n then release (answerFinals s e n) e n else s
    | .releasing => if installQuiet s e n then endInstall s e n else s

/-! ## Panes fetched from a mirror (09 R267) -/

/-- A whole copy from a mirror holder becomes the pane (09 R267). -/
def installCopy (s : State) (e : EngineId) (n : Install) (w : Window) (content : List Byte) : State :=
  let s := bump s e cntMirrorCopies 1
  let l := installLedger s e n w
  if w.isHot then
    let s := stampInstalled (storePane s e 2 w n.row allGranules content) e w n.row l (0, 0)
    dropInstall (settleInstalled s e w.number n.row) e n.id
  else modInstall (tierAnew s e 4 w n.row content l (.install n.id)) e n.id (fun x => { x with phase := .repairing })

/-- A copy asked of a mirror holder has been answered: it is installed, or the pane is installed by chain or gather. -/
def settleFetch (s : State) (e : EngineId) (f : Fetch) : State :=
  match f.owner with
  | .install id =>
    if !fetchAnswered s e f.id || copyRuns s e then s
    else
      let s := dropFetch s e f.id
      match findInstall s e id with
      | none => s
      | some n => match windowRec s e n.window with
        | none => dropInstall s e id
        | some w =>
          let s := if f.whole then bump s e cntPaneDigests 1 else s
          if f.refused.isSome || !f.agrees || paneInFlight s e n.window n.row then s else installCopy s e n w f.content
  | _ => s

/-! ## Operations that waited -/

/-- The facet streams this operation. -/
def isActive (s : State) (e : EngineId) (o : Op) : Bool :=
  match o.facet with
  | some (b, f) => (facetOf s (engineOf b) f).active == some { home := e.val, op := o.id }
  | none => false

/-- Go on with an operation as far as its inputs allow. -/
def pumpOp (s : State) (e : EngineId) (id : Nat) : State :=
  match findOp s e id with
  | none => s
  | some o => match o.work with
    | .seal _ _ todo _ => pumpSeal (todo.length + 1) s e id
    | .lanes _ => settleLanes s e id
    | .rows r => if isActive s e o then pumpRows (r.panes + 1) s e id else s
    | .mirror _ _ todo => pumpMirror (todo.length + 1) s e id
    | .compare _ _ todo _ => pumpCompare (2 * todo.length + 2) s e id
    | .move _ => pumpMove 8 s e id
    | .silver _ => goSilver s e id
    | .barrier t m _ _ => pumpBarrier s e id t m
    | .restore _ _ _ => pumpRestore s e id
    | .abort _ => if (s.eng e).job.abortFrom.isEmpty then endWork s e id 0x00 else s
    | _ => s

/-- An abort scan that waited for installs goes on once no erasure of a gradient window is left (07 R209). -/
def settleAbort (s : State) (e : EngineId) : State :=
  let ws := (myWindows s e).filter (·.cls == 1)
  if (s.eng e).job.abortFrom.isEmpty || (s.eng e).reb.ranges.any (fun p => p.2.local_ && ws.any (·.number == p.2.window)) then s
  else abortScan s e (s.eng e).job.abortFrom

/-- A pane of the directory that was decoded at its old version is final: no sweep recomputes it (07 R215, 08 R226). -/
def settleDirectory (s : State) (e : EngineId) : State :=
  match dirWindow s e with
  | none => s
  | some w => (s.eng e).reb.recons.foldl (fun s r => if r.window == w.number && r.standing then finalOld s e r else s) s

/-- The rows that a drill walks in all: those of its windows, at most *DRILL_ROWS* (14 R389). -/
def drillWindows (s : State) (e : EngineId) : List Window :=
  ((myWindows s e).filter (fun w => w.cls != 1 && bit (reg s e regDrillWindows) w.number)).mergeSort (fun a b => a.number ≤ b.number)

def drillTotal (s : State) (e : EngineId) : Nat :=
  min (reg s e regDrillRows) ((drillWindows s e).foldl (fun n w => n + w.length) 0)

/-- The drill has drilled its rows: its outcome, its record and the new position (14 R390). -/
def settleDrill (s : State) (e : EngineId) : State :=
  let d := (s.eng e).lou.drill
  if !d.running || d.rows < drillTotal s e || !(drillRows s e).isEmpty then s
  else
    let s := closeDrill s e (if d.mismatches == 0 then 0 else 1) d.at_
    raise (bump s e cntDrills 1) e evDrillDone 0 (s.eng e).lou.drill.last

/-- One round over everything that may have become possible at an engine. -/
def settleRound (s : State) (e : EngineId) : State :=
  let s := retryHeld (drainIsolated (sendUnsent 4096 s e) e) e
  let s := (s.eng e).reb.fetches.foldl (fun s f => settleFetch s e f) s
  let s := ((s.eng e).reb.installs.map (·.id)).foldl (fun s id => settleInstall s e id) s
  let s := settleDirectory ((s.eng e).reb.recons.foldl (fun s r => settleRecon s e r) s) e
  let s := tryEndJob (pumpReads (pumpWrites 2 s e) e) e
  let s := settleAbort s e
  settleDrill (((s.eng e).iss.ops.map (·.id)).foldl (fun s id => pumpOp s e id) s) e

/-- Let an engine go on with everything that an event has made possible, and handle the faults met on the way. -/
def settle (s : State) (e : EngineId) : State :=
  if present s e then handleFaults (settleRound (settleRound (settleRound s e) e) e) e else s

/-- Let every present engine go on. -/
def settleAll (s : State) : State := forEngines (presentEngines s) settle s

end Sys2Proof.Machine
end

