-- ==== Sys2Proof/Machine/Background.lean ====
section
/-!
DEFINITION. What time brings at an engine: the scrubber (11 R319), drills (14 R389, R390), background installs (09 R262, R268),
and the timeouts of the fabric and of rebuilds (01 R33, R34, 05 R149, 06 R186, 09 R253, R266, 11 R315).
-/

namespace Sys2Proof.Machine

open Sys2Proof

/-! ## Walks over windows -/

/-- The row at a place of a walk over windows in ascending order, or the first one after it; from the start after the last. -/
def walkRow (ws : List Window) (at_ : Nat × Nat) : Option (Window × Nat) :=
  let after := ws.findSome? (fun w =>
    if w.number == at_.1 && at_.2 < w.length then some (w, at_.2)
    else if at_.1 < w.number && w.length != 0 then some (w, 0) else none)
  match after with
  | some p => some p
  | none => ws.findSome? (fun w => if w.length != 0 then some (w, 0) else none)

/-- The place after a row. -/
def placeAfter (ws : List Window) (w : Window) (row : Nat) : Nat × Nat :=
  match walkRow ws (w.number, row + 1) with
  | some (v, r) => (v.number, r)
  | none => (w.number, row)

/-- An install of a pane waits to start: background work yields to it (09 R262, 11 R319, 14 R389). -/
def installsWait (s : State) (e : EngineId) : Bool :=
  (s.eng e).reb.installs.any (fun n => writesPane n && n.phase == .waiting)

/-! ## The scrubber (11 R319) -/

/-- The scrubber verifies its next row, one at a time; rows that VERIFY skips are counted. -/
def scrubRow (s : State) (e : EngineId) : State :=
  let busy := (s.eng e).reb.installs.any (fun n => match n.purpose with
    | .verify none _ => true
    | .rowCheck none _ _ => true
    | _ => false)
  let ws := (myWindows s e).mergeSort (fun a b => a.number ≤ b.number)
  if !armed s e || reg s e regScrubShare == 0 || busy || installsWait s e then s
  else match walkRow ws (s.eng e).lou.scrub with
    | none => s
    | some (w, row) =>
      let s := s.modLou e (fun l => { l with scrub := placeAfter ws w row })
      if verifySkips s e w row then bump s e cntScrubSkipped 1
      else settle (newInstall s e (.verify none false) w.number row (columnHere s e row) 0 false) e

/-- SCRUB_ROW: the background scrubber takes its next row. -/
def execScrubRow (e : EngineId) (s : State) : Out := .next (if present s e then scrubRow s e else s)

/-! ## Drills (14 R389, R390) -/

/-- A period starts: a drill starts, or the period is skipped while an enrolment range is open or an aperture is under way. -/
def drillPeriod (s : State) (e : EngineId) : State :=
  let d := (s.eng e).lou.drill
  let off := !armed s e || reg s e regDrillPeriod == 0 || reg s e regDrillRegionPanes == 0
  if off || d.running then s
  else
    let fresh := { d with rows := 0, mismatches := 0, at_ := d.pos }
    if (s.eng e).reb.ranges.any (fun p => !p.2.local_) || (apertureOp s e).isSome || copyRuns s e then
      bump (closeDrill (s.modLou e (fun l => { l with drill := fresh })) e 2 d.pos) e cntDrillsSkipped 1
    else settle (s.modLou e (fun l => { l with drill := { fresh with running := true } })) e

/-- DRILL_PERIOD: the start of a drill period. -/
def execDrillPeriod (e : EngineId) (s : State) : Out := .next (if present s e then drillPeriod s e else s)

/-- The further columns that *DRILL_DEPTH* treats as lost (14 R389). -/
def drillExtra (s : State) (e : EngineId) (column : Nat) : Nat :=
  let o := geo s e
  if o.isGlobal column then 0
  else
    let mates := (List.range o.k).filter (fun j => j != column && o.groupOf j == o.groupOf column)
    (mates.take (reg s e regDrillDepth)).foldl (fun m j => m ||| 2 ^ j) 0

/-- A row that a drill skips. -/
def drillSkips (s : State) (e : EngineId) (w : Window) (row : Nat) : Bool := inRange s e w.number row || !rowPresent s e w row

/-- Go on to the next row of the drill: skipped rows count as drilled, any other starts its chain. -/
def drillNext : Nat → State → EngineId → State
  | 0, s, _ => s
  | n + 1, s, e =>
    let d := (s.eng e).lou.drill
    if drillTotal s e ≤ d.rows + (drillRows s e).length then s
    else match walkRow (drillWindows s e) d.at_ with
      | none => s
      | some (w, row) =>
        let s := s.modLou e (fun l => { l with drill := { l.drill with at_ := placeAfter (drillWindows s e) w row } })
        if drillSkips s e w row then
          drillNext n (bump (s.modLou e (fun l => { l with drill := { l.drill with rows := l.drill.rows + 1 } })) e cntDrillRows 1) e
        else newInstall s e .drill w.number row (columnHere s e row) (drillExtra s e (columnHere s e row)) false

/-- A row's chain starts, within *CHAINS_MAX* and after every kind of install. -/
def drillRow (s : State) (e : EngineId) : State :=
  if !(s.eng e).lou.drill.running || installsWait s e || reg s e regChainsMax ≤ activeInstalls s e then s
  else settle (drillNext (drillTotal s e + 1) s e) e

/-- DRILL_ROW: the next row of the drill. -/
def execDrillRow (e : EngineId) (s : State) : Out := .next (if present s e then drillRow s e else s)

/-! ## Background installs (09 R262, R268) -/

/-- Rows of a list in the order of background work: those with equal r mod n together. -/
def groupedRows (n : Nat) (rows : List Nat) : List Nat :=
  (List.range n).flatMap (fun c => rows.filter (fun r => r % n == c))

/-- A row that still lacks its pane, is not on its way and not beyond decoding. -/
def lacks (s : State) (e : EngineId) (w : Window) (row : Nat) : Bool :=
  row < w.length && !rebuildBit s e w.number row && !installing s e w.number row && !(reconAt s e w.number row).isSome
  && !paneLost s e w.number row

/-- The header rows of every parcel of this member's objects (08 R234). -/
def headerRows (s : State) (e : EngineId) : List Nat :=
  (validSlots s e).flatMap (fun o =>
    let r := resEntry s e o
    (List.range r.depth).map (fun p => parcelRow s e r p 0))

/-- The panes to install, in the order of 09 R262: directory, parcel headers, the remaining STATE windows, the COLD windows. -/
def backgroundOrder (s : State) (e : EngineId) : List (Window × List Nat) :=
  let ws := (myWindows s e).mergeSort (fun a b => a.number ≤ b.number)
  let rows := fun (w : Window) => groupedRows (geo s e).n (List.range w.length)
  let dir := (dirWindow s e).toList
  let head := (poolWindow s e).toList
  dir.map (fun w => (w, rows w)) ++ head.map (fun w => (w, groupedRows (geo s e).n (headerRows s e)))
    ++ ((ws.filter (fun w => w.cls == 0 && !dir.any (fun d => d.number == w.number))).map (fun w => (w, rows w)))
    ++ ((ws.filter (fun w => w.cls == 2)).map (fun w => (w, rows w)))

/-- A spare starts the install of its next pane by chain. -/
def backgroundInstall (s : State) (e : EngineId) : State :=
  let g := (s.eng e).reb
  if !g.enrolled || !g.firstCommit || reg s e regRebuildShare == 0 || installsWait s e then s
  else
    match (backgroundOrder s e).findSome? (fun p => (p.2.find? (lacks s e p.1)).map (fun r => (p.1, r))) with
    | none => s
    | some (w, row) => settle (newInstall s e (.install true) w.number row (columnHere s e row) 0 false) e

/-- BACKGROUND_INSTALL: a spare's next pane. -/
def execBackgroundInstall (e : EngineId) (s : State) : Out := .next (if present s e then backgroundInstall s e else s)

/-! ## Timeouts -/

/-- CHAIN_TIMEOUT: a chain whose sum has not come starts again (09 R266). -/
def execChainTimeout (e : EngineId) (install : Nat) (s : State) : Out := .next (settle (chainTimeout s e install) e)

/-- An arbitration has no digest from the mirror holder in time (11 R315). -/
def digestTimeout (s : State) (e : EngineId) (id : Nat) : State :=
  modInstall s e id (fun n => match n.purpose with
    | .arbitrate i ch d false => { n with purpose := .arbitrate i ch d true }
    | _ => n)

/-- ARBITRATION_DIGEST_TIMEOUT (11 R315). -/
def execArbitrationDigestTimeout (e : EngineId) (arbitration : Nat) (s : State) : Out :=
  .next (settle (digestTimeout s e arbitration) e)

/-- Refuse the first held request that a test picks. -/
def refuseHeld (s : State) (e : EngineId) (pick : Held → Bool) (status : Nat) : State :=
  match (s.eng e).fab.held.find? pick with
  | none => s
  | some h => nak (s.modFab e (fun f => { f with held := f.held.erase h })) e h.chunk status

/-- MIRROR_WAIT_TIMEOUT: a MIRROR_REQ that waits for this engine's commit is refused (06 R186). -/
def execMirrorWaitTimeout (e : EngineId) (srcChip : BitVec 13) (tag : BitVec 12) (s : State) : Out :=
  .next (settle (refuseHeld s e (fun h => h.why == .commit && h.chunk.srcChip == srcChip && h.chunk.tag == tag) 0x60) e)

/-- The oldest operation that holds a chunk of a channel for a newer generation completes with 0x12 (12 R354). A sweep that has stamped a
block in part cannot complete it: an engine fault (07 R193, R436). -/
def endHolding (s : State) (e : EngineId) (vc : BitVec 2) : State :=
  match (s.eng e).iss.ops.find? (fun o =>
      (s.eng e).fab.requests.any (fun r => heldNewer r && r.chunk.vc == vc && reqOfOp s e o.id r)) with
  | none => s
  | some o =>
    if (halfPanes s e o).isEmpty then finishOp (forgetOp s e o.id) e o (worstStatus (o.causes ++ [0x12])) 0
    else engineFault s e causeStamp

/-- GEN_HOLD_TIMEOUT: the oldest request that a channel holds for the next generation is refused (01 R34), or, where the hold is the
engine's `own`, the operation that holds a chunk ends (12 R354). -/
def execGenHoldTimeout (e : EngineId) (vc : BitVec 2) (own : Bool) (s : State) : Out :=
  .next (settle (if own then endHolding s e vc else refuseHeld s e (fun h => isGenHeld h && h.chunk.vc == vc) 0x12) e)

/-- Contributions that wait for a slot are performed as soon as it is open for their step (05 R149). -/
def retryOpened (s : State) : State :=
  forEngines (presentEngines s) (fun s e => if (s.eng e).fab.held.any (·.why == .slotOpen) then settle s e else s) s

/-- ACCOPEN opens a group slot (05 R146). -/
def execAccopen (i : EngineInstr) (s : State) : Out :=
  .next (retryOpened (route noUnits beginAccopen (rowInstr 0x20 i 0 0) s))

/-- An ACCUM_WRITE that waits for its slot is refused (05 R149). -/
def accOpenTimeout (s : State) (e : EngineId) (chip engine : Nat) : State :=
  match (s.eng e).fab.held.find? (fun h => h.why == .slotOpen && h.chunk.srcChip.toNat == chip && h.chunk.srcEngine.toNat == engine) with
  | none => s
  | some h => nak (s.modFab e (fun f => { f with held := f.held.erase h })) e h.chunk 0x60

/-- ACC_OPEN_WAIT_TIMEOUT (05 R149). -/
def execAccOpenWaitTimeout (e : EngineId) (srcChip : BitVec 13) (srcEngine : BitVec 4) (s : State) : Out :=
  .next (settle (accOpenTimeout s e srcChip.toNat srcEngine.toNat) e)

/-- A chunk that an older responder refused goes out again as a new one (09 R253). -/
def genRetry (s : State) (e : EngineId) (tag : Nat) : State :=
  match (s.eng e).fab.requests.find? (fun r => r.tag == tag && r.hold == .retry) with
  | some r => reissue s e r
  | none => s

/-- GEN_RETRY_INTERVAL (09 R253). -/
def execGenRetryInterval (e : EngineId) (tag : BitVec 12) (s : State) : Out := .next (settle (genRetry s e tag.toNat) e)

/-- FABRIC_RESEND_TIMEOUT: the oldest unanswered chunk goes out again, and the eighth timeout in a row reports the destination (01
R33, 09 R246); a peer of stage 4 that does not answer becomes unreachable (15 R411). -/
def execFabricResendTimeout (e : EngineId) (chip : BitVec 13) (dst : BitVec 4) (vc : BitVec 2) (s : State) : Out :=
  if !armed s e && (s.eng e).bring.peers.contains chip.toNat then .next (peerTimeout s e chip.toNat)
  else .next (if present s e then resendTimeout s e chip.toNat dst.toNat vc.toNat else s)

/-- CREDIT_GRANT: a credit of a channel arrives (01 R28). -/
def execCreditGrant (e : EngineId) (vc : BitVec 2) (s : State) : Out := .next (grantCredit s e vc.toNat)

end Sys2Proof.Machine
end

