-- ==== Sys2Proof/Machine/Fold.lean ====
section
/-!
DEFINITION. The fold of a gathered pane into this member's parity, on the fold facets, for hot and cold windows (04 R120, R121, 07
R195-R200, 08 R232, 11 R321).
-/

namespace Sys2Proof.Machine

open Sys2Proof

/-- The bytes of a gathered pane, the segments not sent as zeros. -/
def gathered (s : State) (e : EngineId) (g : Gather) : List Byte :=
  let a := gatherAddr s e g.vc g.srcSlot g.column
  (List.range 16).flatMap (fun i => if g.segments.contains i then hbm s e (a + 256 * i) 256 else zeros 256)

/-- The holder reads the whole gathered pane before its first fold write (11 R321). -/
def noteGathered (s : State) (e : EngineId) (g : Gather) : State :=
  g.segments.foldl (fun s i => noteMem s e 1 none false (gatherAddr s e g.vc g.srcSlot g.column + 256 * i) 256) s

/-- Acknowledge every chunk of a pane, in SEQ order, and free its gather slot (07 R195, step 5). -/
def ackGather (s : State) (e : EngineId) (g : Gather) (status : Nat) : State :=
  let s := s.modFab e (fun f => { f with complete := f.complete.erase g })
  g.chunks.foldl (fun s c => if status == 0 then answer s e c (ackKind c.k) 0 c.step.toNat [] else nak s e c status) s

def isGradient (g : Gather) : Bool := g.vc == 1

/-- The gather area's bytes of a pane can be read (11 R321). -/
def gatherReadable (s : State) (e : EngineId) (g : Gather) : Bool :=
  g.segments.all (fun i => readable s e (gatherAddr s e g.vc g.srcSlot g.column + 256 * i) 256)

/-- An unreadable gathered pane is discarded unacknowledged: its flow expects its first chunk again (11 R321). -/
def dropGather (s : State) (e : EngineId) (g : Gather) : State :=
  let s := s.modFab e (fun f => { f with complete := f.complete.erase g })
  match g.chunks with
  | [] => s
  | c :: _ =>
    let s := setRxFlow s e { rxFlow s e (rxKey c) c.mapGen with expected := c.seq, gapSent := false }
    s.modFab e (fun f => { f with held := f.held.filter (fun h => !(rxKey h.chunk == rxKey c && h.chunk.mapGen == c.mapGen)) })

/-! ## The fold facets (04 R120, R121) -/

/-- The fold facets that remain. -/
def foldFacets (s : State) (e : EngineId) : List Nat :=
  (List.range (facetCount s)).filter (fun f => bit (facetMask s) f && isFold s e f && !(facetOf s e f).isolated)

/-- The fold facet of a row: number r mod F. -/
def foldFacetOf (s : State) (e : EngineId) (row : Nat) : Option Nat :=
  let fs := foldFacets s e
  fs[row % fs.length]?

/-- The cell whose product a fold takes: output row p for global parity p, 4 for local parity, in the sending column. -/
def foldCell (s : State) (e : EngineId) (g : Gather) : Nat :=
  let o := geo s e
  let c := columnHere s e g.row
  24 * (if o.isLocal c then 4 else c - o.k - o.l) + g.column

/-- The product of a payload with that cell's coefficient. -/
def foldProduct (s : State) (e : EngineId) (f : Nat) (g : Gather) (content : List Byte) : List Byte :=
  gfScale (cellActive (facetOf s e f) (foldCell s e g)) content

/-- Segments of 16 B that are not all zero: those that stream. -/
def liveSegments (content : List Byte) : Nat :=
  ((List.range 256).filter (fun i => (slice content (16 * i) 16).any (· != 0))).length

/-- A parity mismatch in the standing pass: the facet is filled again; a second one is a facet fault (04 R107). -/
def foldMismatch (s : State) (e : EngineId) (f : Nat) : State :=
  let s := ceUnit (bump s e cntCoeffParityErrors 1) e
  if (facetOf s e f).restarts == 0 then modFacet (fillFoldFacet s e f) e f (fun x => { x with restarts := 1 }) else facetFault s e f

/-! ## The fold of a hot pane (07 R195, R198, R200) -/

/-- The fold itself: the product is written over the parity pane where no column of the step is in it yet, else XORed into the granules
that it touches. -/
def foldInto (s : State) (e : EngineId) (w : Window) (g : Gather) (prod : List Byte) (fresh : Bool) : State :=
  if fresh then storePane s e 1 w g.row allGranules prod
  else
    let live := liveGranules prod
    let s := noteReqs s e 1 none false false (live.map (fun i => (i + 64 * (w.base + g.row), 0)))
    storePane s e 1 w g.row live (xorBytes (rowBytes s e w g.row) prod)

/-- Step 4: mask word and ledger entry. A STEP-0 pane leaves the mask word and STEP_TAG, and is recorded (07 R198). -/
def foldStamp (s : State) (e : EngineId) (w : Window) (g : Gather) (mask : Nat) : State :=
  let l := ledgerOf s e w g.row
  let l := { l with version := (l.version + 1) % 65536 }
  if g.step == 0 then
    (storeLedger s e 1 w g.row l).modFab e (fun f => { f with
      foldLog := ({ window := g.window, row := g.row, srcSlot := g.srcSlot } :: f.foldLog).take 1024 })
  else
    let s := noteMem (setMask s e w g.row g.step (mask + 2 ^ g.column)) e 1 none true (w.maskAt g.row) 8
    storeLedger s e 1 w g.row { l with stepTag := max l.stepTag g.step }

/-- Steps 1 to 4 of 07 R195 on a fold facet, then the acknowledgements. -/
def foldHot (s : State) (e : EngineId) (f : Nat) (w : Window) (g : Gather) : State :=
  let s := if g.step == 0 then s else noteMem s e 1 none false (w.maskAt g.row) 8
  let mask := maskFor s e w g.row g.step
  if g.step != 0 && bit mask g.column then bump (ackGather s e g 0) e cntDeltaDuplicates 1
  else
    let s := noteGathered s e g
    let content := gathered s e g
    let prod := foldProduct s e f g content
    let fresh := isGradient g && (maskWord s e w g.row).1 != g.step
    let s := noteCells (bringPresent s e w g.row) e f (liveSegments content)
    let s := foldStamp (foldInto s e w g prod fresh) e w g mask
    ackGather (bump s e (if isGradient g then cntGparityFolds else cntDeltaFolds) 1) e g 0

/-! ## The fold of a cold pane (08 R232) -/

/-- The fold of this pane has been begun in the tier. -/
def foldBegun (s : State) (e : EngineId) (g : Gather) : Bool :=
  tierHas s e (fun t => match t with
    | .foldRead v a b => gatherKey v a b g
    | .fold v a b => gatherKey v a b g
    | _ => false)

/-- The write half: the granules that the product touches, then the ledger entry with VERSION + 1. -/
def foldColdWrite (s : State) (e : EngineId) (f : Nat) (w : Window) (g : Gather) : State :=
  let content := gathered s e g
  let prod := foldProduct s e f g content
  let live := liveGranules prod
  let (s, a) := silverAhead s e 1 (0, 0) w g.row
  let (s, a) := tierBorn s e 1 (0, 0) w g.row a
  let l := ledgerOf s e w g.row
  let new := xorBytes (rowBytes s e w g.row) prod
  let p := s.group.coord.tierNext
  let (s, a) := if live.isEmpty then (s, a)
                else (tierAskParts s e 1 (0, 0) (w.paneAt g.row) 4096 new true a .part live, some p)
  tierStore (noteCells s e f (liveSegments content)) e 1 (0, 0) (w.ledgerAt g.row)
    (leBytes ({ l with version := (l.version + 1) % 65536 } : Ledger).word 8) a (.fold g.vc g.srcSlot g.column)

/-- Begin the read-modify-write: the granules of a present parity pane that the product touches are read. -/
def foldColdBegin (s : State) (e : EngineId) (f : Nat) (w : Window) (g : Gather) : State :=
  let s := noteGathered s e g
  let live := liveGranules (foldProduct s e f g (gathered s e g))
  if live.isEmpty || !rowPresent s e w g.row then foldColdWrite s e f w g
  else tierAskParts s e 1 (0, 0) (w.paneAt g.row) 4096 [] false none (.foldRead g.vc g.srcSlot g.column) live

/-- A fold that met a late or failed tier access: NAK for every chunk, and the parity pane is listed. -/
def foldColdFail (s : State) (e : EngineId) (g : Gather) (status : Nat) : State :=
  addRepair (ackGather s e g status) e g.window g.row (columnHere s e g.row)

/-- The tier read of a cold fold has ended. -/
def foldColdRead (s : State) (e : EngineId) (vc src column status : Nat) : State :=
  match (s.eng e).fab.complete.find? (gatherKey vc src column) with
  | none => s
  | some g => match windowRec s e g.window, foldFacetOf s e g.row with
    | some w, some f => if status != 0 then foldColdFail s e g status else foldColdWrite s e f w g
    | _, _ => ackGather s e g status

/-- The last tier write of a cold fold has ended: acknowledge, or NAK and list the parity pane. -/
def foldColdEnd (s : State) (e : EngineId) (vc src column status : Nat) : State :=
  match (s.eng e).fab.complete.find? (gatherKey vc src column) with
  | none => s
  | some g => if status != 0 then foldColdFail s e g status else ackGather (bump s e cntColdFolds 1) e g 0

/-! ## Which pane is folded next -/

/-- A whole pane of the same row was gathered earlier: the panes of a row are folded one at a time, in that order (07 R195). -/
def foldBehind (s : State) (e : EngineId) (g : Gather) : Bool :=
  ((s.eng e).fab.complete.takeWhile (· != g)).any (fun x => x.window == g.window && x.row == g.row)

/-- A whole gathered pane may be folded now: it is the next of its row and has not been begun, the row is not frozen, is no erasure, is not
under repair, no aperture holds it, and its fold facet is not in reset (09 R263, 08 R233, 10 R285). -/
def canFold (s : State) (e : EngineId) (g : Gather) : Bool :=
  !foldBehind s e g && !foldBegun s e g && !rowFrozen s e g.window g.row && !inLocalRange s e g.window g.row
  && !(g.step == 0 && copyRuns s e)
  && !((s.eng e).reb.installs.any (fun n => n.window == g.window && n.row == g.row))
  && (foldFacetOf s e g.row).any (fun f => !(facetOf s e f).inReset)

/-- Fold a pane on its facet, whose cell keeps its parity. -/
def foldOn (s : State) (e : EngineId) (f : Nat) (w : Window) (g : Gather) : State :=
  if cellBad (facetOf s e f) (foldCell s e g) then foldMismatch s e f
  else if w.isHot then foldHot s e f w g
  else foldColdBegin s e f w g

/-- Fold the oldest whole pane that may be folded (07 R195). One of a row that this spare has still to install is acknowledged without
folding (07 R212, 09 R259). -/
def foldNext (s : State) (e : EngineId) : State :=
  match (s.eng e).fab.complete.find? (canFold s e) with
  | none => s
  | some g =>
    if !gatherReadable s e g then dropGather s e g
    else match windowRec s e g.window, foldFacetOf s e g.row with
      | some w, some f =>
        if rowHeld s e g.window g.row then ackGather s e g 0
        else
          let (s, ok) := checkRow s e w g.row
          if ok then foldOn s e f w g else s
      | _, _ => ackGather s e g 0

end Sys2Proof.Machine
end

