-- ==== Sys2Proof/Machine/LifeCycle.lean ====
section
/-!
DEFINITION. Life-cycle transitions, authorised requests, the service lease and RETURN (16 R418-R429).
-/

namespace Sys2Proof.Machine

open Sys2Proof

/-! ## The service tier (16 R426) -/

/-- The service tier ends: a flip-mask armed with KIND 2 is disarmed. -/
def endService (s : State) : State :=
  if s.group.lc.state != .service then s
  else
    let s := forEngines allEngines (fun s e =>
      if (s.eng e).lou.flipArmed && flipKind s e == 2 then s.modLou e (fun l => { l with flipArmed := false }) else s) s
    s.modLc (fun l => { l with state := .operate, leaseEnd := 0 })

/-- The lease ends (16 R421). -/
def execLeaseExpiry (s : State) : Out := .next (endService s)

/-- The lockout of 60 s ends (16 R425). -/
def execLockoutExpiry (s : State) : Out := .next (s.modLc (fun l => { l with lockout := false, lockEnd := 0 }))

/-! ## Keys and challenges (16 R422, R423) -/

/-- The committed *SERVICE_KEY*; where none has been committed since bring-up, that of the fuses. -/
def serviceKey (s : State) : List Byte :=
  (List.range 32).map (fun i => match AList.get? s.group.dict.regs (regServiceKey.1, regServiceKey.2, i) with
    | some v => BitVec.ofNat 8 v
    | none => s.group.lc.keyFuses.getD i 0)

/-- A key has been committed in this part. -/
def keyCommitted (s : State) : Bool :=
  s.group.dict.regs.any (fun p => p.1.1 == regServiceKey.1 && p.1.2.1 == regServiceKey.2)

/-- *AUTH_CHALLENGE*: the time base at its creation, the count of challenges, zeros. -/
def challenge (s : State) : List Byte :=
  leBytes s.group.lc.challengeT.toNat 8 ++ leBytes s.group.lc.challenges 4 ++ zeros 4

def newChallenge (s : State) : State :=
  s.modLc (fun l => { l with challenges := (l.challenges + 1) % 2 ^ 32, challengeT := s.time })

/-! ## Transitions (16 R418, R421, R427) -/

/-- Step 1 of RETURN: every engine writes zeros over the manifest panes of both archive slots. -/
def wipeManifests (s : State) : State :=
  forEngines (presentEngines s) (fun s e =>
    if reg s e regArchivePanes == 0 then s
    else
      let s := tierStore s e 4 (0, 0) (Archive.base s e 0) (zeros 4096) none .wipe
      tierStore s e 4 (0, 0) (Archive.base s e 1) (zeros 4096) none .wipe) s

/-- Manifest writes still outstanding. -/
def wiping (s : State) : Bool := s.group.coord.tierReqs.any (fun t => t.cont == .wipe && t.live)

/-- A fuse blow has been asked for; the answer follows its read-back. -/
def beginBlow (s : State) (b : FuseBlow) : State :=
  let s := s.modLc (fun l => { l with blowing := some b })
  match b with
  | .returned | .authReturned => wipeManifests s
  | _ => s

/-- *LC_ADVANCE*: none where the answer waits for the fuses. -/
def lcAdvance (s : State) (v : Nat) : State × Option Ans :=
  let l := s.group.lc.state
  if v == 0 || 3 < v then (s, some (.refuse 4 regLcAdvance))
  else if v == 1 && l == .test && keyCommitted s then (beginBlow s .provisioned, none)
  else if v == 2 && l == .provisioned then (beginBlow s .field, none)
  else if v == 3 && l == .test then (beginBlow s .returned, none)
  else (s, some (.refuse 2 regLcAdvance))

/-- *LC_RELOCK*: 1 only. -/
def lcRelock (s : State) (v : Nat) : State × Ans :=
  if v != 1 then (s, .refuse 4 regLcRelock)
  else if s.group.lc.state != .service then (s, .refuse 2 regLcRelock)
  else (endService s, .done)

/-- Step 3 of RETURN: the tier ends, no job and no staged blob is left; step 4: every stack is zero. -/
def enterReturn (s : State) : State :=
  let s := endService s
  let s := s.modLc (fun l => { l with state := .returned, lcFuses := l.lcFuses ||| 4#64, keyFuses := List.replicate 32 0xff })
  let s := s.modGDict (fun d => { d with
    regs := d.regs.filter (fun p => !(p.1.1 == regServiceKey.1 && p.1.2.1 == regServiceKey.2)) })
  forEngines allEngines (fun s e =>
    let s := (endJob s e).modJob e (fun j => { j with staged := none })
    s.modMem e (fun m => { m with hbm := [], health := [] })) s

/-- What a blown fuse changes. -/
def blown (s : State) (b : FuseBlow) : State :=
  match b with
  | .provisioned =>
    let key := serviceKey s
    s.modLc (fun l => { l with state := .provisioned, lcFuses := l.lcFuses ||| 1#64, keyFuses := key })
  | .field => s.modLc (fun l => { l with state := .operate, lcFuses := l.lcFuses ||| 2#64 })
  | .returned => enterReturn s
  | .authReturned => enterReturn s

/-- Answer the transaction that waits for the fuses. -/
def answerBlow (s : State) (b : FuseBlow) (a : Ans) : State :=
  let s := s.modLc (fun l => { l with
    blowing := none, lastAuth := if b == .authReturned then a.code else l.lastAuth })
  let data := if a.code == 0 then [] else leBytes (rejectData 0xe a.why) 8
  s.modGDict (fun d => { d with resp := some { code := a.code, data := data, segment := 0 } })

/-- The transaction of a blow, for the data of a refusal. -/
def blowEntry (b : FuseBlow) : Nat × Nat := if b == .authReturned then regAuthRequest else regLcAdvance

/-- FUSE_READBACK: the fuse reads back as blown, or does not (16 R418). -/
def fuseReadback (s : State) (ok : Bool) : State :=
  match s.group.lc.blowing with
  | none => s
  | some b =>
    if wiping s then s
    else if ok then answerBlow (blown s b) b .done
    else answerBlow s b (.reject (blowEntry b) 0 0x60)

def execFuseReadback (ok : Bool) (s : State) : Out := .next (fuseReadback s ok)

/-- A manifest write of RETURN has ended; one that fails ends the request (16 R427, step 1). -/
def wipeTier (s : State) (status : Nat) : State :=
  if status == 0 then s
  else match s.group.lc.blowing with
    | none => s
    | some b =>
      let s := s.modCoord (fun c => { c with tierReqs := c.tierReqs.filter (fun x => x.cont != .wipe || !x.live) })
      answerBlow s b (.reject (blowEntry b) 0 0x60)

/-! ## Authorised requests (16 R424, R425) -/

/-- ACTION and LEASE are in range. -/
def authRanges (action lease : Nat) : Bool := (action == 1 && 1 ≤ lease && lease ≤ 480) || (action == 2 && lease == 0)

/-- A refused request with good length and ranges counts, modulo 256; the eighth in a row starts a lockout (16 R425; what the count does
in a lockout and past 255 is the model's, notes/assumptions/45.md, DESIGN CHOICE). -/
def authFailed (s : State) : State :=
  let n := (s.group.lc.authFails + 1) % 256
  let start := !s.group.lc.lockout && n % 8 == 0
  let until_ := afterMinutes s.time 1
  s.modLc (fun l => { l with
    authFails := n, lockout := l.lockout || start, lockEnd := if start then until_ else l.lockEnd })

/-- The signed message: "CZLC", *CHIP_ID*, bytes 0 to 23 of the request. -/
def authMessage (s : State) (bs : List Byte) : List Byte :=
  [0x43, 0x5a, 0x4c, 0x43] ++ leBytes s.group.lc.chipId 2 ++ slice bs 0 24

/-- Whether an engine stands in the way of RETURN. -/
def returnBlocked (s : State) : Bool :=
  allEngines.any (fun e => armed s e || (s.eng e).snap.snap.isSome)

/-- The first row of 16 R424 that applies: a refusal, or none where the action is performed. -/
def authCheck (s : State) (bs : List Byte) : Option Nat :=
  let action := leAt bs 0 4
  let lease := leAt bs 4 4
  let l := s.group.lc.state
  let allowed := if action == 1 then l == .operate || l == .service else l == .provisioned || l == .operate || l == .service
  if bs.length != 88 then some 3
  else if s.group.lc.lockout then some 2
  else if !authRanges action lease then some 4
  else if !allowed then some 2
  else if slice bs 8 16 != challenge s || !edVerify (serviceKey s) (authMessage s bs) (slice bs 24 64) then some 2
  else if action == 2 && returnBlocked s then some 2
  else none

/-- *AUTH_REQUEST* complete: none where the answer waits for the fuses. -/
def authRequest (s : State) (bs : List Byte) : State × Option Ans :=
  let done := fun (s : State) (a : Ans) => ((newChallenge s).modLc (fun l => { l with lastAuth := a.code }), some a)
  match authCheck s bs with
  | some code =>
    let counts := bs.length == 88 && authRanges (leAt bs 0 4) (leAt bs 4 4)
    done (if counts then authFailed s else s) (.refuse code regAuthRequest)
  | none =>
    let s := s.modLc (fun l => { l with authFails := 0 })
    if leAt bs 0 4 == 1 then
      let minutes := leAt bs 4 4
      done (s.modLc (fun l => { l with state := .service, leaseEnd := afterMinutes s.time minutes, lease := minutes })) .done
    else (newChallenge (beginBlow s .authReturned), none)

end Sys2Proof.Machine
end

