-- ==== Sys2Proof/Machine/Views.lean ====
section
/-!
DEFINITION. What a read of the object dictionary returns: identity, live views, counters, committed values (13 R356-R361, R365,
R373-R374; 05 R156, 09 R260, 10 R303, 11 R328, R332, 14 R380-R387, 15 R408, R415, 16 R417, R420, R430).
-/

namespace Sys2Proof.Machine

open Sys2Proof

/-! ## Identity (13 R373) -/

def Position.code : Position → Nat
  | .present => 0
  | .fusedOff => 1
  | .unpowered => 2
  | .inReset => 3
  | .isolated => 4

/-- *POSITION_STATE* of an engine; in RETURN every position reads 1 (16 R429). -/
def positionState (s : State) (e : EngineId) : Nat :=
  if s.group.lc.state == .returned then 1 else (s.eng e).bring.position.code

/-- The bit mask of present positions. -/
def presentMask (s : State) : Nat := (presentEngines s).foldl (fun n e => n + 2 ^ e.val) 0

/-- Facets of the part that its fuses leave. -/
def facetsFused (s : State) : Nat := ((List.range 8).filter (bit (facetMask s))).length

/-- An identity entry's width in bytes and value under a scope. -/
def identity (s : State) (sc : Scope) (sub : Nat) : Nat × Nat :=
  match sub with
  | 1 => (4, 0x4c57b709)
  | 2 => (1, variant s)
  | 3 => (1, scopeId sc)
  | 4 => (1, match sc with
      | some _ => facetsFused s
      | none => (presentEngines s).length * facetsFused s)
  | 5 => (1, kLimit s)
  | 6 => match sc with
      | some e => (1, positionState s e)
      | none => (2, presentMask s)
  | 7 => (1, match sc with
      | some e => (s.eng e).bring.lastStage
      | none => match (presentEngines s).map (fun e => (s.eng e).bring.lastStage) with
        | [] => 0
        | n :: ns => ns.foldl min n)
  | 8 => (8, s.group.lc.fuses.toNat)
  | 9 => (2, s.group.lc.siliconRev.toNat)
  | 10 => (2, 1)
  | _ => (2, s.group.lc.chipId % 2 ^ 13)

/-! ## Words of single views -/

def GroupMode.code : GroupMode → Nat
  | .clean => 0
  | .dirty => 1
  | .waiting => 2
  | .rejected => 3

/-- An entry of *GROUP_STATUS* (13 R365). -/
def GroupStat.word (v : GroupStat) : Nat :=
  put v.applied 32 32 + put v.reason 8 24 + put v.check 8 16 + put (b2n v.abandoned) 1 3 + v.mode.code

/-- *GROUP_STATUS* entry `g` as engine `e` shows it; groups of the coordinator show the coordinator's. -/
def groupStatusWord (s : State) (e : EngineId) (g : Nat) : Nat :=
  (groupStat s (if groupShared g then none else some e) g).word

/-- *DEGRADED_RANGES* (09 R260). -/
def DegradedRange.word (r : DegradedRange) : Nat :=
  put 1 1 63 + put r.window 4 59 + put r.first 28 31 + put r.last 28 3 + put (b2n r.local_) 1 2

/-- Rows installed of a window (09 R277): the set bits of its rebuild bitmap, on a member that has enrolled. -/
def rebuildProgress (s : State) (e : EngineId) (w : Nat) : Nat :=
  if !(s.eng e).reb.enrolled then 0
  else match windowRec s e w with
    | none => 0
    | some x => ((List.range x.length).filter (rebuildBit s e w)).length

/-- c_{p,j} at byte 24p + j of *COEFF_TABLE* (13 R374). -/
def coeffByte (s : State) (e : EngineId) (i : Nat) : Nat :=
  let o := geo s e
  if armed s e && i / 24 < o.m && i % 24 < o.k then (coeff (i / 24) (i % 24)).toNat else 0

/-- *JOB_STATE* (09 R277). -/
def jobState (s : State) (e : EngineId) : Nat :=
  match (s.eng e).job.job, (s.eng e).job.staged with
  | some j, _ => put j.jobGen 32 32 + put j.rev 16 16 + 2
  | none, some b => put b.jobGen 32 32 + put b.rev 16 16 + 1
  | none, none => 0

/-- A position of the scrubber or the drills: window [63:60], row [59:32] (11 R328, 14 R388). -/
def positionWord (p : Nat × Nat) : Nat := put p.1 4 60 + put p.2 28 32

/-- The retired macros of a structure, one bit each (11 R328). -/
def retiredWord (s : State) (e : EngineId) (struct_ : Nat) : Nat :=
  (List.range 32).foldl (fun n i => n + (if (s.eng e).lou.retired.contains (struct_, i) then 2 ^ i else 0)) 0

/-- *RESIDENCY_VIEW* (08 R243). -/
def residencyView (s : State) (e : EngineId) (o : Nat) : Nat := put (resWord s e o) 64 64 + put (liveMask s e o) 64 0

/-- *COLD_REPAIR_STATUS* (08 R243). -/
def repairStatus (s : State) (e : EngineId) : Nat :=
  put (b2n (s.eng e).tier.repairFull) 1 63 + put (s.eng e).tier.repairs.length 10 0

/-- *SNAP_STATE* (10 R303). -/
def snapState (s : State) (e : EngineId) : Nat :=
  match apertureOp s e, (s.eng e).snap.snap, (s.eng e).snap.restoreGen with
  | some (_, g, _), _, _ => put g 32 32 + 1
  | none, some x, _ => put x.gen 32 32 + (if x.copying then 1 else if x.running then 3 else 2)
  | none, none, some g => put g 32 32 + 4
  | none, none, none => 0

/-- *DETECTOR_VIEW* (14 R384): μ, ν, c and the last step, in that order. -/
def detectorView (s : State) (d : Nat) : Nat :=
  let x := detectorOf s d
  x.mu.toNat + put x.nu.toNat 32 32 + put x.c 32 64 + put s.group.health.lastStep 32 96

/-- *LATCH_STATUS* (14 R380). -/
def latchStatus (s : State) : Nat :=
  let l := s.group.health.latch
  put l.seq 32 32 + put (b2n l.late) 1 2 + put l.state 2 0

/-- An event record as 32 bytes (01 R44). -/
def EventRec.word (r : EventRec) : Nat :=
  put r.time.toNat 64 192 + put r.step 32 160 + put r.code 16 144 + put r.engine 4 140 + put r.facet 4 136 + put r.severity 2 134
  + put r.stream 6 128 + put r.status 8 120 + put r.tag 24 96 + put r.args 96 0

/-- The position of the newest record in *EVENT_LOG* (14 R377). -/
def logHead (s : State) : Nat := (gcounter s cntEventsRaised + 63) % 64

/-- *EVENT_LOG* element `i`. -/
def logWord (s : State) (i : Nat) : Nat := ((s.group.ev.log[(logHead s + 64 - i) % 64]?).map EventRec.word).getD 0

/-- *CLOCK_STATUS* (15 R415). -/
def clockWord (s : State) (d : Nat) : Nat :=
  if s.group.coord.clocks.contains d then put 1 1 31 + (Config.measuredMHz d).toNat else 0

def LifeCycle.code : LifeCycle → Nat
  | .test => 0
  | .provisioned => 1
  | .operate => 2
  | .service => 3
  | .returned => 4

/-- Time left until an end, in units of so many nanoseconds, rounded up. -/
def timeLeft (s : State) (until_ : BitVec 64) (unit : Nat) : Nat := (until_.toNat - s.time.toNat + unit - 1) / unit

/-- *LC_STATUS* (16 R430). -/
def lcStatus (s : State) : Nat :=
  let l := s.group.lc
  put (if l.state == .service then timeLeft s l.leaseEnd 60000000000 else 0) 16 48 + put l.authFails 8 40
  + put (if l.lockout then timeLeft s l.lockEnd 1000000000 else 0) 8 32 + put l.lastAuth 8 0

/-- The row that *LEDGER_PEEK_SELECT* names (16 R420). -/
def peekRow (s : State) (e : EngineId) : Option (Window × Nat) :=
  let v := reg s e regLedgerPeekSelect
  match windowRec s e (bits v 63 60) with
  | none => none
  | some w => if bits v 59 32 < w.length then some (w, bits v 59 32) else none

/-- A word of *LEDGER_PEEK*: the ledger entry, then the mask word. -/
def peekWord (s : State) (e : EngineId) (i : Nat) : Nat :=
  match peekRow s e with
  | none => 0
  | some (w, r) => if i == 0 then leNat (winRead s e w (w.ledgerAt r) 8) else hbmNat s e (w.maskAt r) 8

/-! ## Words by entry -/

/-- The views of an engine that are not stored values: element `i` of an entry. -/
def engineView (s : State) (e : EngineId) (index sub i : Nat) : Option Nat :=
  let nd := nondetWords (s.eng e).lou
  match index, sub with
  | 0x2000, 0x10 => some (groupStatusWord s e i)
  | 0x3000, 0x02 => some (genOf s e).toNat
  | 0x3000, 0x03 => some (s.eng e).job.memberSlot
  | 0x3020, 0x06 => some (((AList.get? (s.eng e).reb.ranges i).map DegradedRange.word).getD 0)
  | 0x3020, 0x08 => some (rebuildProgress s e i)
  | 0x3030, 0x01 => some (coeffByte s e i)
  | 0x3040, 0x02 => some (jobState s e)
  | 0x4010, 0x05 => some (s.eng e).job.lastDecision
  | 0x4010, 0x06 => some (s.eng e).job.committed
  | 0x6030, 0x01 => some nd.1
  | 0x6030, 0x02 => some nd.2.1
  | 0x6030, 0x03 => some nd.2.2
  | 0x6040, 0x02 => some (positionWord (s.eng e).lou.scrub)
  | 0x6050, 0x01 => some (s.eng e).lou.bucket
  | 0x6050, 0x05 => some (retiredWord s e i)
  | 0x6060, 0x03 => some (b2n (s.eng e).lou.flipArmed)
  | 0x7010, 0x02 => some s.tierBase
  | 0x7010, 0x03 => some s.tierLimit
  | 0x7030, 0x03 => some (residencyView s e i)
  | 0x7030, 0x04 => some (repairStatus s e)
  | 0x7040, 0x07 => some (put (snapNeed s e).1 32 32 + put (snapNeed s e).2 32 0)
  | 0x7040, 0x08 => some (snapState s e)
  | 0x7050, 0x04 => some (leAt (AList.getD (s.eng e).snap.manifests i []) 0 512)
  | 0xb040, 0x01 => some (AList.getD (s.eng e).bring.report i 0).toNat
  | 0xb050, 0x03 => some (s.eng e).bring.lastReset.toNat
  | 0xc030, 0x02 => some (peekWord s e i)
  | 0xd020, 0x01 => some (s.eng e).lou.drill.last
  | 0xd020, 0x02 => some (positionWord (s.eng e).lou.drill.pos)
  | _, _ => none

/-- The views of the group that are not stored values. -/
def groupView (s : State) (index sub i : Nat) : Option Nat :=
  match index, sub with
  | 0x8040, 0x01 => some (riskView s)
  | 0x8040, 0x02 => some (detectorView s i)
  | 0x9000, 0x03 => some (latchStatus s)
  | 0xa000, 0x01 => some (logWord s i)
  | 0xa000, 0x02 => some (logHead s)
  | 0xb010, 0x01 => some (clockWord s i)
  | 0xb030, 0x02 => some s.group.coord.powerEst.toNat
  | 0xc000, 0x01 => some s.group.lc.state.code
  | 0xc000, 0x02 => some s.group.lc.lcFuses.toNat
  | 0xc000, 0x03 => some (lcStatus s)
  | 0xc010, 0x01 => some ((challenge s).getD i 0).toNat
  | 0xc020, 0x01 => some ((serviceKey s).getD i 0).toNat
  | _, _ => none

def isCounter (index : Nat) : Bool := 0x9010 ≤ index && index ≤ 0x90ff

/-- Element `i` of an entry as a read returns it: a view, a counter, or the committed value. -/
def readWord (s : State) (sc : Scope) (index sub i : Nat) : Nat :=
  match sc with
  | some e =>
    if isCounter index then counter s e (index, sub) i
    else (engineView s e index sub i).getD (regElem s e (index, sub) i)
  | none =>
    if isCounter index then AList.getD s.group.dict.counters (index, sub, i) 0
    else (groupView s index sub i).getD (regIn (isSix s) s.group.dict.regs index sub i)

/-- Bytes of a table of elements of `elem` bytes (13 R360). -/
def tableBytes (s : State) (sc : Scope) (index sub elem off n : Nat) : List Byte :=
  let first := off / elem
  let bs := (List.range ((off + n + elem - 1) / elem - first)).flatMap (fun i => leBytes (readWord s sc index sub (first + i)) elem)
  (bs.drop (off - first * elem)).take n

/-! ## BLOBs -/

/-- *ACC_PEEK* at *ACC_PEEK_SELECT* (05 R156). -/
def peekAcc (s : State) (e : EngineId) : Option (List Byte) :=
  let v := reg s e regAccPeekSelect
  accPeek s e (bits v 61 56) (bits v 28 0)

/-- The value of a BLOB entry of an engine. -/
def engineBlob (s : State) (e : EngineId) (index sub : Nat) : List Byte :=
  match index, sub with
  | 0x3000, 0x01 => ((s.eng e).job.job.map (·.mapBytes)).getD []
  | 0x3010, 0x05 => ringExport s e
  | 0x4000, 0x02 => updateDigest s e
  | 0x9000, 0x05 => (s.eng e).dict.latchImage
  | _, _ => blobIn (s.eng e).dict.blobs index sub

def readBlob (s : State) (sc : Scope) (index sub : Nat) : List Byte :=
  match sc with
  | some e => engineBlob s e index sub
  | none => if index == 0x9000 then s.group.health.latchImage else blobIn s.group.dict.blobs index sub

end Sys2Proof.Machine
end

