-- ==== Sys2Proof/Machine/Port.lean ====
section
/-!
DEFINITION. The dictionary port: access rights, types and ranges, BLOB assembly, staged writes, commits and the entries that act
(01 R43, R57; 13 R356-R370; 11 R326; 14 R381; 15 R415; 16 R418-R424).
-/

namespace Sys2Proof.Machine

open Sys2Proof

/-- The outcome of a transaction: the state after, and its answer, or none where the answer waits for the fuses. -/
abbrev Served := State × Option Ans

def served (s : State) (a : Ans) : Served := (s, some a)
def servedP (p : State × Ans) : Served := (p.1, some p.2)
def refused (s : State) (code : Nat) (r : Nat × Nat) : Served := (s, some (.refuse code r))
def accepted (s : State) : Served := (s, some .done)

/-! ## Access (13 R361, 16 R419) -/

def serviceOpen (s : State) : Bool := s.group.lc.state == .test || s.group.lc.state == .service

def mayRead (s : State) (en : Entry) : Bool :=
  match en.right with
  | .ro => true
  | .rw => true
  | .rws => true
  | .svc => serviceOpen s
  | .svcRo => serviceOpen s
  | .wo => false
  | .cmt => false

/-- Entries that PROVISIONED refuses: no job is staged or armed there. -/
def needsField (r : Nat × Nat) : Bool := r == regJobBlob || r == regJobArm

def mayWrite (s : State) (en : Entry) (r : Nat × Nat) : Bool :=
  let l := s.group.lc.state
  match en.right with
  | .ro => false
  | .svcRo => false
  | .rw => l != .returned
  | .rws => l != .returned
  | .cmt => l != .returned && !(needsField r && l == .provisioned) && !(r == regKeyCommit && l != .test)
  | .wo => !(needsField r && l == .provisioned)
  | .svc => if r == regLedgerPeek then l == .test else serviceOpen s

/-! ## Types and ranges (13 R358-R360) -/

def Ty.width : Ty → Nat
  | .u n => n
  | .bool => 1
  | .enum => 1
  | .table _ elem => elem
  | .blob _ _ => 0

/-- The element that a table's ranges begin and end on. *MANIFEST_VIEW*'s 512 B elements exceed a transaction and are read by
bytes (notes/assumptions/27.md, DEDUCED). -/
def tableGrain (elem : Nat) : Nat := if elem ≤ 256 then elem else 1

/-- OP, LENGTH, SEGMENT and DATA fit the type. -/
def fits (en : Entry) (t : Txn) : Bool :=
  let n := t.length.toNat
  let seg := t.segment.toNat
  let op := t.op.toNat
  let isWrite := op == 1 || op == 2
  (!isWrite || t.data.length == n) && n ≤ 256 &&
  (match en.ty with
   | .table count elem =>
     let off := seg % 2 ^ 15 * 256
     2 ≤ op && seg < 2 ^ 15 && n != 0 && off + n ≤ count * elem && off % tableGrain elem == 0 && n % tableGrain elem == 0
   | .blob _ _ => 2 ≤ op
   | ty => op ≤ 1 && n == ty.width && seg == 0)

/-- Rules of single entries beyond their type rows (04 R135 on a BT-9E, 05 R157, 08 R243, 14 R388). -/
def extraRange (s : State) (e : EngineId) (r : Nat × Nat) (v : Nat) : Bool :=
  if r.1 == regStreamFacet.1 then !isSix s || v ≤ 5
  else if r == regTierDirWindow || r == regPoolWindow then v ≤ 7 || v == 0xff
  else if r == regAccPeekSelect then bits v 63 62 == 0 && bits v 55 29 == 0
  else if r == regDrillDepth then v ≤ (geo s e).m
  else if r == regDrillRegionPanes then v == 0 || reg s e regChainsMax ≤ v
  else true

/-- A scalar value in its range. -/
def valueFits (s : State) (sc : Scope) (en : Entry) (r : Nat × Nat) (v : Nat) : Bool :=
  en.lo ≤ v && v ≤ en.hi && v % en.align == 0 &&
  (match sc with
   | some e => extraRange s e r v
   | none => true)

/-! ## Committed and staged writes (13 R362, R366) -/

/-- A group's shadow has been written. -/
def markDirty (s : State) (sc : Scope) (g : Nat) : State := setStat s sc g { groupStat s sc g with mode := .dirty }

/-- The words a write carries: element and value. -/
def wordsOf (en : Entry) (t : Txn) : List (Nat × Nat) :=
  match en.ty with
  | .table _ elem =>
    let first := t.segment.toNat % 2 ^ 15 * 256 / elem
    (List.range (t.data.length / elem)).map (fun i => (first + i, leAt t.data (elem * i) elem))
  | _ => [(0, leNat t.data)]

def putWords (r : Nat × Nat) (ws : List (Nat × Nat)) (regs : RegFile) : RegFile :=
  ws.foldl (fun f w => AList.set f (r.1, r.2, w.1) w.2) regs

/-- Write an RWS member into its shadow. -/
def stageWords (s : State) (sc : Scope) (g : Nat) (r : Nat × Nat) (ws : List (Nat × Nat)) : State :=
  markDirty (modStore s sc (fun t => { t with shadow := putWords r ws t.shadow })) sc g

def stageBytes (s : State) (sc : Scope) (g : Nat) (r : Nat × Nat) (bs : List Byte) : State :=
  markDirty (modStore s sc (fun t => { t with shadowBlobs := AList.set t.shadowBlobs r bs })) sc g

def setWords (s : State) (sc : Scope) (r : Nat × Nat) (ws : List (Nat × Nat)) : State :=
  modStore s sc (fun t => { t with regs := putWords r ws t.regs })

/-! ## Entries that act -/

/-- Whether a flip-mask of the kind in *FLIPMASK_TARGET* may be armed: a code, or 0 (11 R326, 16 R419). -/
def flipCode (s : State) (target : Nat) : Nat :=
  let k := bits target 63 62
  let l := s.group.lc.state
  if k == 0 || k == 3 then 4
  else if k == 1 then (if l == .test || l == .operate || l == .service then 0 else 2)
  else if serviceOpen s then 0 else 2

/-- A write to one of the three flip-mask entries: it replaces an armed mask. -/
def writeFlip (s : State) (e : EngineId) (r : Nat × Nat) (v : Nat) : Served :=
  let target := if r == regFlipmaskTarget then v else flipTarget s e
  let arms := if r == regFlipmaskArm then v == 1 else (s.eng e).lou.flipArmed
  if arms && flipCode s target != 0 then refused s (flipCode s target) r
  else if r == regFlipmaskArm then accepted (s.modLou e (fun l => { l with flipArmed := v == 1 }))
  else accepted (setWords s (some e) r [(0, v)])

/-- *LATCH_ARM* (14 R381). -/
def armLatch (s : State) (v : Nat) : Served :=
  let at_ := greg s regLatchAt
  let now := s.time.toNat
  let arm := fun (k : Nat) => s.modHealth (fun h => { h with latch := { h.latch with kind := k, at_ := at_, state := 1 } })
  if v == 0 then accepted (if s.group.health.latch.kind == 0 then s else cancelLatch s)
  else if v == 1 then
    if at_ < now then accepted (fireLatch s true)
    else if now + 60000000000 < at_ then refused s 4 regLatchArm
    else accepted (arm 1)
  else if at_ ≤ s.group.coord.stepC then accepted (fireLatch s true)
  else accepted (arm 2)

/-- *RESET_REQUEST* (15 R415). A position isolated by a fault takes an engine reset (15 R407). -/
def resetRequest (s : State) (sc : Scope) (v : Nat) : Served :=
  let level := bits v 7 6
  let absorb := bit v 5
  match sc with
  | none =>
    if level == 3 then refused s 4 regResetRequest
    else if level == 2 then accepted (requestGroup s absorb false sourceDict)
    else refused s 1 regResetRequest
  | some e =>
    if level == 3 then refused s 4 regResetRequest
    else if level == 2 then refused s 1 regResetRequest
    else if level == 1 then accepted (requestReset s e absorb false false 1 sourceDict 0)
    else accepted (requestFacet s e (bits v 2 0) absorb sourceDict)

/-- *JOB_END* (13 R364): it waits for the next step boundary. -/
def writeJobEnd (s : State) (e : EngineId) : Served :=
  if !armed s e then (s, some (.reject regJobEnd 0 0x11))
  else accepted (s.modJob e (fun j => { j with ending := .asked }))

/-- A write of *LEDGER_PEEK* replaces words as given (16 R420). -/
def writePeek (s : State) (e : EngineId) (t : Txn) : Served :=
  match peekRow s e with
  | none => refused s 4 regLedgerPeek
  | some (w, r) =>
    let s := winWrite s e w (w.ledgerAt r) (t.data.take 8)
    accepted (if t.data.length == 16 then setHbm s e (w.maskAt r) (t.data.drop 8) else s)

/-! ## Commit entries (13 R364, R366, R369) -/

/-- One engine's, or the coordinator's, part of a commit of 1. -/
def commitOne (s : State) (sc : Scope) (g : Nat) (r : Nat × Nat) : Served :=
  match (groupStat s sc g).mode with
  | .clean => accepted s
  | .waiting => refused s 5 r
  | _ => match validate s sc g with
    | none => accepted (enterWait s sc g)
    | some x => (noteReject s sc g x, some (.ofReject x))

def discardOne (s : State) (sc : Scope) (g : Nat) (r : Nat × Nat) : Served :=
  match (groupStat s sc g).mode with
  | .clean => accepted s
  | .waiting => refused s 5 r
  | _ => accepted (discardGroup s sc g)

/-- A commit of 1 on every present engine (13 R369): the engine that stands in the way, or none. -/
def commitAll (s : State) (es : List EngineId) (g : Nat) (r : Nat × Nat) : State × Option (Nat × Ans) :=
  match es.find? (fun e => (groupStat s (some e) g).mode == .waiting) with
  | some e => (s, some (e.val, .refuse 5 r))
  | none =>
    let dirty := es.filter (fun e => (groupStat s (some e) g).mode != .clean)
    match dirty.findSome? (fun e => (validate s (some e) g).map (fun x => (e, x))) with
    | some (e, x) =>
      let mark := fun (s : State) (e : EngineId) => match validate s (some e) g with
        | some y => noteReject s (some e) g y
        | none => setStat s (some e) g { groupStat s (some e) g with mode := .rejected }
      (forEngines dirty mark s, some (e.val, .ofReject x))
    | none => (forEngines dirty (fun s e => enterWait s (some e) g) s, none)

/-! ## Scalar and table writes -/

/-- The action or store of a write that has passed its checks. -/
def performWrite (s : State) (sc : Scope) (en : Entry) (r : Nat × Nat) (t : Txn) : Served :=
  let v := leNat t.data
  if r == regResetRequest then resetRequest s sc v
  else if r == regLatchArm then armLatch s v
  else if r == regLcAdvance then lcAdvance s v
  else if r == regLcRelock then servedP (lcRelock s v)
  else match sc with
    | none =>
      if en.right == .cmt then (if v == 1 then commitOne s sc en.group r else discardOne s sc en.group r)
      else if en.right == .rws then accepted (stageWords s sc en.group r (wordsOf en t))
      else
        let s := if r == regLinkRetries then s.modHealth (fun h => { h with staleLink := false })
                 else if r == regThermalMargin then s.modHealth (fun h => { h with staleTherm := false }) else s
        accepted (setWords s sc r (wordsOf en t))
    | some e =>
      if r == regJobEnd then writeJobEnd s e
      else if r == regLedgerPeek then writePeek s e t
      else if r.1 == regFlipmaskArm.1 then writeFlip s e r v
      else if en.right == .cmt then (if v == 1 then commitOne s sc en.group r else discardOne s sc en.group r)
      else if en.right == .rws then accepted (stageWords s sc en.group r (wordsOf en t))
      else accepted (setWords s sc r (wordsOf en t))

/-! ## BLOBs (13 R359) -/

/-- What a BLOB does once LAST has come. -/
def performBlob (s : State) (sc : Scope) (en : Entry) (r : Nat × Nat) (bs : List Byte) : Served :=
  if r == regAuthRequest then authRequest s bs
  else match sc with
    | none => accepted (stageBytes s sc en.group r bs)
    | some e =>
      if r == regMapStage then
        let (s, a) := stageMap s e bs
        if a.code == 0 then (stageBytes s sc 2 r bs, some a) else (s, some a)
      else if r == regRingImport then servedP (ringImport s e bs)
      else if r == regJobBlob then servedP (stageBlob s e bs)
      else if r == regJobArm then servedP (armJob s e bs)
      else accepted (stageBytes s sc en.group r bs)

def setAsm (s : State) (sc : Scope) (a : Option BlobAsm) : State := modStore s sc (fun t => { t with asm := a })

/-- A BLOB segment continues, completes or abandons the assembly. -/
def blobSegment (s : State) (sc : Scope) (en : Entry) (r : Nat × Nat) (lo hi : Nat) (t : Txn) : Served :=
  let seg := t.segment.toNat
  let n := seg % 2 ^ 15
  let last := bit seg 15
  let fresh : BlobAsm := { index := r.1, sub := r.2, next := 0, bytes := [] }
  let cur := if n == 0 then some fresh
             else (storeOf s sc).asm.filter (fun a => a.index == r.1 && a.sub == r.2 && a.next == n)
  let drop := setAsm s sc none
  match cur with
  | none => refused drop 3 r
  | some a =>
    let bs := a.bytes ++ t.data
    if t.data.isEmpty || (!last && t.data.length != 256) then refused drop 3 r
    else if !last then
      if hi < bs.length then refused drop 3 r
      else accepted (setAsm s sc (some { a with next := n + 1, bytes := bs }))
    else if (bs.length < lo || hi < bs.length) && r != regAuthRequest then refused drop 3 r
    else performBlob drop sc en r bs

/-- A BLOB segment read. -/
def blobRead (s : State) (r : Nat × Nat) (value : List Byte) (t : Txn) : Served :=
  let n := t.segment.toNat % 2 ^ 15
  let from_ := 256 * n
  if value.isEmpty && n == 0 then served s { Ans.done with segment := 2 ^ 15 }
  else if t.length.toNat == 0 then refused s 3 r
  else if value.length ≤ from_ then refused s 4 r
  else
    let bs := (value.drop from_).take t.length.toNat
    served s { Ans.done with data := bs, segment := n + (if value.length ≤ from_ + bs.length then 2 ^ 15 else 0) }

/-! ## One scope -/

/-- A member of a group that waits for its safe point. -/
def entryWaits (s : State) (sc : Scope) (en : Entry) : Bool :=
  en.group != 16 && (groupStat s sc en.group).mode == .waiting

def isWrite (t : Txn) : Bool := t.op == 1#2 || t.op == 2#2

/-- A read that has passed its right. -/
def serveRead13 (s : State) (sc : Scope) (en : Entry) (r : Nat × Nat) (t : Txn) : Served :=
  if r.1 == 0x1000 then
    let (w, v) := identity s sc r.2
    if t.op != 0#2 || t.length.toNat != w || t.segment != 0#16 then refused s 3 r
    else served s { Ans.done with data := leBytes v w }
  else if !fits en t then refused s 3 r
  else if entryWaits s sc en then refused s 5 r
  else match en.ty, sc with
    | .blob _ _, some e =>
      if r == regAccPeek then
        match peekAcc s e with
        | none => refused s 4 r
        | some bs => blobRead (useFree s 2) r bs t
      else blobRead s r (readBlob s sc r.1 r.2) t
    | .blob _ _, none => blobRead s r (readBlob s sc r.1 r.2) t
    | .table _ elem, some e =>
      if r == regLedgerPeek && (peekRow s e).isNone then refused s 4 r
      else served s { Ans.done with data := tableBytes s sc r.1 r.2 elem (t.segment.toNat * 256) t.length.toNat }
    | .table _ elem, none =>
      served s { Ans.done with data := tableBytes s sc r.1 r.2 elem (t.segment.toNat * 256) t.length.toNat }
    | ty, _ => served s { Ans.done with data := leBytes (readWord s sc r.1 r.2 0) ty.width }

/-- A SILVER or its staging refuses every segment of *JOB_BLOB* and *JOB_ARM* (10 R290). -/
def silverHolds (s : State) (sc : Scope) (r : Nat × Nat) : Bool :=
  match sc with
  | some e => (r == regJobBlob || r == regJobArm) && silverBusy s e
  | none => false

/-- A write that has passed its right. -/
def serveWrite13 (s : State) (sc : Scope) (en : Entry) (r : Nat × Nat) (t : Txn) : Served :=
  if !fits en t then refused s 3 r
  else match en.ty with
    | .blob lo hi => if entryWaits s sc en || silverHolds s sc r then refused s 5 r else blobSegment s sc en r lo hi t
    | .table _ _ => if entryWaits s sc en then refused s 5 r else performWrite s sc en r t
    | _ =>
      if !valueFits s sc en r (leNat t.data) then refused s 4 r
      else if entryWaits s sc en then refused s 5 r
      else performWrite s sc en r t

/-- Sub-index 0: the highest sub-index of an index (13 R356). -/
def serveSub0 (s : State) (sc : Scope) (index : Nat) (t : Txn) : Served :=
  let r := (index, 0)
  match highestSub index with
  | none => refused s 1 r
  | some n =>
    let here := index == 0x1000 || (List.range 256).any (fun i => match findEntry index i with
      | some en => en.shared == sc.isNone
      | none => false)
    if !here then refused s 1 r
    else if isWrite t then refused s 2 r
    else if t.op != 0#2 || t.length.toNat != 1 || t.segment != 0#16 then refused s 3 r
    else served s { Ans.done with data := [BitVec.ofNat 8 n] }

/-- A transaction in one scope. -/
def serveOne (s : State) (sc : Scope) (t : Txn) : Served :=
  let r := (t.index.toNat, t.sub.toNat)
  if r.2 == 0 then serveSub0 s sc r.1 t
  else match findEntry r.1 r.2 with
    | none => refused s 1 r
    | some en =>
      if !(en.shared == sc.isNone || r.1 == 0x1000 || r == regResetRequest) then refused s 1 r
      else if isWrite t then (if mayWrite s en r then serveWrite13 s sc en r t else refused s 2 r)
      else if mayRead s en then serveRead13 s sc en r t else refused s 2 r

/-- The stub responder for an absent position (01 R57): identity reads, and in RETURN the reads that 16 R419 leaves open. A position
isolated by a fault takes its reset (15 R407). -/
def serveStub (s : State) (e : EngineId) (t : Txn) : Served :=
  let r := (t.index.toNat, t.sub.toNat)
  let ro := match findEntry r.1 r.2 with
    | some en => en.right == .ro
    | none => r.2 == 0
  if !isWrite t && (r.1 == 0x1000 || (s.group.lc.state == .returned && ro)) then serveOne s (some e) t
  else if r == regResetRequest && isWrite t && (s.eng e).bring.position == .isolated && s.group.lc.state != .returned
      && t.data.length == 1 && bits (leNat t.data) 7 6 == 1 then serveOne s (some e) t
  else refused s 1 r

/-! ## The port -/

/-- Put the answer of a transaction out: 8 bytes that name the entry at fault for a refusal (13 R370). -/
def respond (s : State) (engine : Nat) (a : Option Ans) : State :=
  s.modGDict (fun d => { d with resp := a.map (fun a =>
    { code := a.code, data := if a.code == 0 then a.data else leBytes (rejectData engine a.why) 8, segment := a.segment }) })

/-- A write to every present engine: done when all accept, otherwise the first failing code with its engine (01 R43). -/
def serveEach (s : State) (es : List EngineId) (t : Txn) : State × Option (Nat × Ans) :=
  es.foldl (fun p e =>
    let (s, a) := serveOne p.1 (some e) t
    (s, match p.2, a with
      | some x, _ => some x
      | none, some x => if x.code == 0 then none else some (e.val, x)
      | none, none => none)) (s, none)

/-- The group that a transaction commits on every engine at once (13 R369). -/
def commitsGroup (t : Txn) : Option Nat :=
  match findEntry t.index.toNat t.sub.toNat with
  | some en => if en.right == .cmt && en.group != 16 && !en.shared && t.op == 1#2 && t.data == [1#8] && t.length == 1#9
                  && t.segment == 0#16 then some en.group else none
  | none => none

/-- A write under ENGINE_SEL 0xF. -/
def serveAll (s : State) (t : Txn) : State × Option (Nat × Ans) :=
  let es := presentEngines s
  let r := (t.index.toNat, t.sub.toNat)
  if !isWrite t || es.isEmpty then (s, some (0xf, .refuse 1 r))
  else if r == regResetRequest then
    (s, some (0xf, .refuse (if t.data.length == 1 && bits (leNat t.data) 7 6 == 3 then 4 else 1) r))
  else match commitsGroup t with
    | some g => if s.group.lc.state == .returned then (s, some (0xf, .refuse 2 r)) else commitAll s es g r
    | none => serveEach s es t

/-- One dictionary transaction. While a fuse blow awaits its read-back every other transaction is answered 0x05 (16 R418). -/
def transact (s : State) (t : Txn) : State :=
  let r := (t.index.toNat, t.sub.toNat)
  let sel := t.engineSel.toNat
  if s.group.lc.blowing.isSome then respond s sel (some (.refuse 5 r))
  else if sel == 0xf then
    let (s, x) := serveAll s t
    match x with
    | none => respond s 0xf (some .done)
    | some (e, a) => respond s e (some a)
  else if sel == 0xe then
    let (s, a) := serveOne s none t
    respond s 0xe a
  else if sel < 12 then
    let e := engineOf sel
    let (s, a) := if present s e then serveOne s (some e) t else serveStub s e t
    respond s sel a
  else respond s sel (some (.refuse 1 r))

/-- A scalar write of one byte. -/
def byteTxn (sel : BitVec 4) (r : Nat × Nat) (v : Byte) : Txn :=
  { op := 1#2, engineSel := sel, index := BitVec.ofNat 16 r.1, sub := BitVec.ofNat 8 r.2, segment := 0#16, length := 1#9, data := [v] }

/-- A segment write. -/
def segTxn (sel : BitVec 4) (r : Nat × Nat) (segment : BitVec 16) (data : List Byte) : Txn :=
  { op := 2#2, engineSel := sel, index := BitVec.ofNat 16 r.1, sub := BitVec.ofNat 8 r.2, segment := segment,
    length := BitVec.ofNat 9 data.length, data := data }

/-! ## The commands -/

/-- A dictionary transaction on any entry, reads included (13 R358). -/
def execRegisterWrite (t : Txn) (s : State) : Out := .next (transact s t)

/-- A BLOB or TABLE segment (13 R359, R360). -/
def execBlobSegmentWrite (t : Txn) (s : State) : Out := .next (transact s t)

/-- A write of 1 to a commit entry (13 R366). -/
def execGroupCommit (sel : BitVec 4) (index : BitVec 16) (sub : BitVec 8) (s : State) : Out :=
  .next (transact s (byteTxn sel (index.toNat, sub.toNat) 1#8))

/-- A write of 0 to a commit entry (13 R364). -/
def execGroupDiscard (sel : BitVec 4) (index : BitVec 16) (sub : BitVec 8) (s : State) : Out :=
  .next (transact s (byteTxn sel (index.toNat, sub.toNat) 0#8))

def execMapStage (sel : BitVec 4) (segment : BitVec 16) (data : List Byte) (s : State) : Out :=
  .next (transact s (segTxn sel regMapStage segment data))

def execRingImport (sel : BitVec 4) (segment : BitVec 16) (data : List Byte) (s : State) : Out :=
  .next (transact s (segTxn sel regRingImport segment data))

def execJobBlob (sel : BitVec 4) (segment : BitVec 16) (data : List Byte) (s : State) : Out :=
  .next (transact s (segTxn sel regJobBlob segment data))

def execJobArm (sel : BitVec 4) (segment : BitVec 16) (data : List Byte) (s : State) : Out :=
  .next (transact s (segTxn sel regJobArm segment data))

def execJobEnd (sel : BitVec 4) (value : Byte) (s : State) : Out := .next (transact s (byteTxn sel regJobEnd value))

def execLatchCancel (s : State) : Out := .next (transact s (byteTxn 0xe#4 regLatchArm 0#8))
def execLatchAtTime (s : State) : Out := .next (transact s (byteTxn 0xe#4 regLatchArm 1#8))
def execLatchAtStep (s : State) : Out := .next (transact s (byteTxn 0xe#4 regLatchArm 2#8))

/-- The byte of a reset request (15 R415). -/
def resetByte (level : Nat) (absorb : Bool) (facet : Nat) : Byte :=
  BitVec.ofNat 8 (put level 2 6 + put (b2n absorb) 1 5 + put facet 3 0)

def execResetRequestFacet (sel : BitVec 4) (absorb : Bool) (facet : BitVec 3) (s : State) : Out :=
  .next (transact s (byteTxn sel regResetRequest (resetByte 0 absorb facet.toNat)))
def execResetRequestEngine (sel : BitVec 4) (absorb : Bool) (s : State) : Out :=
  .next (transact s (byteTxn sel regResetRequest (resetByte 1 absorb 0)))
def execResetRequestGroup (sel : BitVec 4) (absorb : Bool) (s : State) : Out :=
  .next (transact s (byteTxn sel regResetRequest (resetByte 2 absorb 0)))

def execFlipmaskArm (sel : BitVec 4) (value : Byte) (s : State) : Out := .next (transact s (byteTxn sel regFlipmaskArm value))

def execLedgerPeekWrite (sel : BitVec 4) (data : List Byte) (s : State) : Out :=
  .next (transact s (segTxn sel regLedgerPeek 0#16 data))

def execAuthServiceUnlock (segment : BitVec 16) (data : List Byte) (s : State) : Out :=
  .next (transact s (segTxn 0xe#4 regAuthRequest segment data))
def execAuthReturn (segment : BitVec 16) (data : List Byte) (s : State) : Out :=
  .next (transact s (segTxn 0xe#4 regAuthRequest segment data))

def execLcRelock (value : Byte) (s : State) : Out := .next (transact s (byteTxn 0xe#4 regLcRelock value))
def execLcAdvanceProvisioned (s : State) : Out := .next (transact s (byteTxn 0xe#4 regLcAdvance 1#8))
def execLcAdvanceField (s : State) : Out := .next (transact s (byteTxn 0xe#4 regLcAdvance 2#8))
def execLcAdvanceReturn (s : State) : Out := .next (transact s (byteTxn 0xe#4 regLcAdvance 3#8))

end Sys2Proof.Machine
end

