-- ==== Sys2Proof/Machine/Events.lean ====
section
/-!
DEFINITION. Events from outside and inside that reach the whole model: chunks, memory and tier responses, retired panes, completed
operations, barriers and resets. Each lets the engines concerned go on with what it has made possible.
-/

namespace Sys2Proof.Machine

open Sys2Proof

/-! ## Chunks. The KIND and MODE fields of the chunk itself decide what it does (01 R33-R36) -/

/-- A DELTA arrives (07 R192-R195). -/
def execDeltaReceive (e : EngineId) (c : Chunk) (s : State) : Out := .next (settle (receive s e c) e)

/-- A DELTA_ACK arrives (07 R191, R433). -/
def execDeltaAckReceive (e : EngineId) (c : Chunk) (s : State) : Out := .next (settle (receive s e c) e)

/-- A ACCUM_WRITE arrives (05 R145-R149). -/
def execAccumWriteReceive (e : EngineId) (c : Chunk) (s : State) : Out := .next (settle (receive s e c) e)

/-- A GPARITY arrives (07 R198, R199). -/
def execGparityReceive (e : EngineId) (c : Chunk) (s : State) : Out := .next (settle (receive s e c) e)

/-- A GPARITY_ACK arrives (07 R198). -/
def execGparityAckReceive (e : EngineId) (c : Chunk) (s : State) : Out := .next (settle (receive s e c) e)

/-- A COLD_PARITY arrives (08 R232). -/
def execColdParityReceive (e : EngineId) (c : Chunk) (s : State) : Out := .next (settle (receive s e c) e)

/-- A DREAD_REQ in mode chain arrives (09 R264). -/
def execDreadReqChain (e : EngineId) (c : Chunk) (s : State) : Out := .next (settle (receive s e c) e)

/-- A DREAD_REQ in mode gather arrives (09 R265). -/
def execDreadReqGather (e : EngineId) (c : Chunk) (s : State) : Out := .next (settle (receive s e c) e)

/-- A DREAD_REQ in mode release arrives (09 R263). -/
def execDreadReqRelease (e : EngineId) (c : Chunk) (s : State) : Out := .next (settle (receive s e c) e)

/-- A DREAD_RESP arrives (09 R265). -/
def execDreadRespReceive (e : EngineId) (c : Chunk) (s : State) : Out := .next (settle (receive s e c) e)

/-- A REBUILD_SUM of a chain arrives (09 R264). -/
def execRebuildSumReceive (e : EngineId) (c : Chunk) (s : State) : Out := .next (settle (receive s e c) e)

/-- A REBUILD_SUM that hands a pane over arrives (07 R216). -/
def execRebuildSumHandoff (e : EngineId) (c : Chunk) (s : State) : Out := .next (settle (receive s e c) e)

/-- A REBUILD_SUM that carries a repair arrives (11 R316). -/
def execRebuildSumRepair (e : EngineId) (c : Chunk) (s : State) : Out := .next (settle (receive s e c) e)

/-- A REBUILD_ACK arrives (09 R264). -/
def execRebuildAckReceive (e : EngineId) (c : Chunk) (s : State) : Out := .next (settle (receive s e c) e)

/-- A MIRROR_REQ for a segment arrives (06 R186). -/
def execMirrorReqSegment (e : EngineId) (c : Chunk) (s : State) : Out := .next (settle (receive s e c) e)

/-- A MIRROR_REQ for a digest arrives (06 R186, R187). -/
def execMirrorReqDigest (e : EngineId) (c : Chunk) (s : State) : Out := .next (settle (receive s e c) e)

/-- A MIRROR_REQ for digest-tree nodes arrives (11 R312). -/
def execMirrorReqNode (e : EngineId) (c : Chunk) (s : State) : Out := .next (settle (receive s e c) e)

/-- A MIRROR_REQ that asks for arbitration arrives (11 R312). -/
def execMirrorReqArbitrate (e : EngineId) (c : Chunk) (s : State) : Out := .next (settle (receive s e c) e)

/-- A MIRROR_REQ answered from a mirror arrives (09 R267). -/
def execMirrorReqFromMirror (e : EngineId) (c : Chunk) (s : State) : Out := .next (settle (receive s e c) e)

/-- A MIRROR_RESP arrives (06 R186). -/
def execMirrorRespReceive (e : EngineId) (c : Chunk) (s : State) : Out := .next (settle (receive s e c) e)

/-- A RESTORE_XFER arrives (10 R300). -/
def execRestoreXferReceive (e : EngineId) (c : Chunk) (s : State) : Out := .next (settle (receive s e c) e)

/-- A S_ACK arrives (08 R228, 10 R300). -/
def execSAckReceive (e : EngineId) (c : Chunk) (s : State) : Out := .next (settle (receive s e c) e)

/-- A NAK arrives (01 R33, 07 R433). -/
def execNakReceive (e : EngineId) (c : Chunk) (s : State) : Out := .next (settle (receive s e c) e)

/-- A NAK with 0x12 arrives (09 R253). -/
def execNakStaleGen (e : EngineId) (c : Chunk) (s : State) : Out := .next (settle (receive s e c) e)

/-- A NAK with 0x70 arrives (01 R56). -/
def execNakAbsent (e : EngineId) (c : Chunk) (s : State) : Out := .next (settle (receive s e c) e)

/-- A NAK with another status arrives (07 R433). -/
def execNakRefused (e : EngineId) (c : Chunk) (s : State) : Out := .next (settle (receive s e c) e)

/-- A RESEND arrives (01 R33). -/
def execResendReceive (e : EngineId) (c : Chunk) (s : State) : Out := .next (settle (receive s e c) e)

/-- A chunk at an absent position arrives (01 R56). -/
def execStubFabricRequest (e : EngineId) (c : Chunk) (s : State) : Out := .next (settle (receive s e c) e)

/-! ## The stack's side -/

/-- MEM_RESPONSE: the stack controller answers a request (01 R18, R19). -/
def execMemResponse (e : EngineId) (tag : BitVec 12) (status : BitVec 2) (poisoned writeAck : Bool) (s : State) : Out :=
  .next (settle (memAnswer s e tag.toNat status.toNat poisoned writeAck) e)

/-- PRESENCE_LOOKUP (01 R25, R26, R55). -/
def execPresenceLookup (e : EngineId) (pane : BitVec 24) (s : State) : Out := .next (settle (lookupAnswer s e pane.toNat) e)

/-- CODED_WRITE (01 R22-R24, R55, R59). -/
def execCodedWrite (e : EngineId) (granule : BitVec 30) (byteEn : List (BitVec 64)) (data : List Byte) (s : State) : Out :=
  .next (settle (codedWrite s e granule.toNat byteEn data) e)

/-! ## Tier requests (01 R47, R48) -/

/-- What the end of a transfer means to whoever asked: status 0x00, 0x30 or 0x31. -/
def tierEnded (s : State) (t : TierReq) (status : Nat) : State :=
  let e := engineOf t.engine
  match t.cont with
  | .move op => moveTier s e op status
  | .silver op => silverTier s e op status
  | .part => s
  | .ahead gen window row entry => aheadTier s e gen window row entry status
  | .born window row =>
    (match windowRec s e window with
     | some w => if status == 0 then noteMem (setPresent s e w row) e 1 none true (w.bitAt row) 1 else s
     | none => s)
  | .restore op => restoreTier s e op status
  | .foldRead vc src col => foldColdRead s e vc src col status
  | .fold vc src col => foldColdEnd s e vc src col status
  | .source c => coldSourceRead s e c status
  | .own id => ownRead s e id status
  | .install id => coldInstallDone s e id status
  | .repaired window row chunk =>
    let s := coldRepaired s e window row chunk status
    if status == 0 then unlistRepair s e window row else s
  | .wipe => wipeTier s status
  | .loaded window row _ _ owner chunk => loadedTier s e window row owner chunk status

/-- The transfers that wait for a transfer, and those that wait for them. -/
def tierChain : Nat → State → Nat → List TierReq
  | 0, _, _ => []
  | n + 1, s, id => (tierFollowers s id).flatMap (fun t => t :: tierChain n s t.id)

/-- Nothing is left of a transfer: whoever asked goes on, or ends with its status together with all that waited for it. -/
def endTransfer (s : State) (t : TierReq) (status : Nat) : State :=
  let chain := if status == 0 then [] else tierChain 16 s t.id
  let s := chain.foldl (fun s u => dropTransfer s u.id) s
  (t :: chain).foldl (fun s u => tierEnded s u status) s

/-- What a request of a transfer stores; whether one that failed has stored it is a free value (notes/assumptions/39.md). -/
def storePart (s : State) (t : TierReq) (p : Nat) (failed : Bool) : State :=
  let r := t.partAt p
  if !t.write || !tierInside s r.1 r.2 then s
  else
    let write := tierWrite s r.1 (slice t.bytes (64 * p) r.2)
    if !failed then write else useFree (if Config.failedWriteTook s.freeCount then write else s) 1

/-- A request has ended with a status; the last of its transfer ends that. -/
def partEnded (s : State) (t : TierReq) (p status : Nat) (late : Bool) : State :=
  let u := t.endPart p status late
  let s := setTransfer (storePart s t p (status != 0)) u
  if u.live then tierGrant s else settle (tierGrant (endTransfer s u u.status)) (engineOf t.engine)

/-- A completion ends its request, or is discarded and counted where the request has ended late. -/
def tierCompletion (s : State) (request : Nat) (error : Bool) : State :=
  match tierPart s request with
  | none => s
  | some t =>
    let p := request % 64
    if t.lost.contains p then
      bump (setTransfer s { t with lost := t.lost.filter (· != p) }) (engineOf t.engine) cntTierLateDiscards 1
    else if !t.out.contains p then s
    else
      let r := t.partAt p
      partEnded s t p (if error || !tierInside s r.1 r.2 then 0x31 else 0) false

/-- A request without completion in time ends as tier late; its completion is still to be discarded. -/
def tierLate (s : State) (request : Nat) : State :=
  match tierPart s request with
  | none => s
  | some t => if t.out.contains (request % 64) then partEnded s t (request % 64) 0x30 true else s

/-- TIER_COMPLETION (01 R48). -/
def execTierCompletion (request : Nat) (error : Bool) (s : State) : Out := .next (tierCompletion s request error)

/-- TIER_LATE_TIMEOUT (01 R48). -/
def execTierLateTimeout (request : Nat) (s : State) : Out := .next (tierLate s request)

/-! ## Panes -/

/-- PANE_ROW_RETIRE: a facet retires a pane-row of the pass it streams, which may be lent work (04 R117, R128). -/
def execPaneRowRetire (e : EngineId) (facet : Fin 8) (s : State) : Out := .next (settleAll (facetRow s e facet.val))

/-- LANE_PANE_COMPLETE: the lanes of a facet finish a pane (06 R178, 07 R191). -/
def execLanePaneComplete (e : EngineId) (facet : Fin 8) (s : State) : Out := .next (settle (lanePane s e facet.val) e)

/-- A whole pane waits to be folded for a freeze of its row alone (09 R263). -/
def freezeHolds (s : State) (e : EngineId) : Bool :=
  (s.eng e).fab.complete.any (fun g => rowFrozen s e g.window g.row)

/-- The oldest whole pane that may be folded is folded; a fold before its step 3 stops under absorb (15 R403). -/
def foldPane (s : State) (e : EngineId) : State :=
  let stopped := match (s.eng e).bring.rst with
    | some r => r.absorb
    | none => false
  if !present s e || stopped then s
  else
    let s := if freezeHolds s e then bumpCycles s e cntFreezeHoldCycles 0 else s
    settle (foldNext s e) e

/-- FOLD_PANE (07 R195). -/
def execFoldPane (e : EngineId) (s : State) : Out := .next (foldPane s e)

/-- COLD_REPAIR: the next listed cold pane is repaired (08 R233). -/
def execColdRepair (e : EngineId) (s : State) : Out := .next (if present s e then settle (coldRepair s e) e else s)

/-! ## Operations -/

/-- Every operation a FENCE waits for has completed (12 R338, R343). -/
def fenceDone (s : State) (e : EngineId) (waits : List Nat) : Bool := !waits.any (fun id => (findOp s e id).isSome)

/-- The last work of an operation that nothing else moves. -/
def finishWork (s : State) (e : EngineId) (o : Op) : State :=
  match o.work with
  | .fence waits => if fenceDone s e waits then endWork s e o.id 0x00 else s
  | .fill _ => if isActive s e o then endPass s e o.id 0x00 else s
  | .copy src dst panes add done => runCopy (panes + 1) s e o.id src dst panes add done
  | .digest _ _ count _ _ _ _ =>
    (match o.facet with
     | some (b, _) => if isActive s e o then runDigest (count + 1) s e (engineOf b) o.id else s
     | none => s)
  | _ => s

/-- An operation completes once its own work has ended and nothing it sent or took is outstanding (12 R337). -/
def completeOp (s : State) (e : EngineId) (id : Nat) : State :=
  match findOp s e id with
  | none => s
  | some o => match o.work with
    | .ended => if opBusy s e id then s else finishOp s e o (worstStatus o.causes) 0
    | _ => s

/-- Finish an operation's work as far as it can go, and complete it. -/
def operationComplete (s : State) (e : EngineId) (id : Nat) : State :=
  match findOp s e id with
  | none => s
  | some o => settleAll (completeOp (finishWork s e o) e id)

/-- OPERATION_COMPLETE (12 R337, R340). -/
def execOperationComplete (e : EngineId) (op : Nat) (s : State) : Out := .next (operationComplete s e op)

/-! ## Barriers, apertures, maps -/

/-- APERTURE_TIMEOUT (10 R283). -/
def execApertureTimeout (e : EngineId) (s : State) : Out := .next (settle (apertureTimeout s e) e)

/-- APERTURE_RELEASE (10 R283, R284). -/
def execApertureRelease (fail : Bool) (s : State) : Out := .next (settleAll (apertureRelease s fail))

/-- APERTURE_COPY_END (10 R284, R285). -/
def execApertureCopyEnd (e : EngineId) (s : State) : Out := .next (settle (apertureCopyEnd s e) e)

/-- COMMIT_RELEASE (07 R206, R208). -/
def execCommitRelease (step : BitVec 32) (mode : BitVec 2) (s : State) : Out :=
  .next (settleAll (commitRelease s step.toNat mode.toNat))

/-- MAP_SAFE_POINT (09 R250, R251). -/
def execMapSafePoint (e : EngineId) (s : State) : Out := .next (settle (mapSafePoint s e) e)

/-! ## Resets (15 R400-R406) -/

/-- A facet whose drain has not finished. -/
def facetDrains (s : State) (e : EngineId) (f : Nat) : Bool :=
  (facetOf s e f).inReset && !(facetOf s e f).absorb && !(facetOf s e f).rstDone

/-- A drain that has not finished in time turns into absorb for the operations that remain, and is counted. -/
def drainTimeout (s : State) (e : EngineId) : State :=
  match (s.eng e).bring.rst with
  | some r =>
    if r.done || r.absorb then s
    else
      let s := s.modBring e (fun b => { b with rst := some { r with absorb := true } })
      absorbEngine (bump s e cntDrainsConverted 1) e r.fault
  | none =>
    ((facetIds s).filter (facetDrains s e)).foldl (fun s f =>
      stopFacetOps (modFacet (bump s e cntDrainsConverted 1) e f (fun x => { x with absorb := true })) e f true) s

/-- DRAIN_TIMEOUT (15 R402). -/
def execDrainTimeout (e : EngineId) (s : State) : Out := .next (drainTimeout s e)

/-- A reset request by its signal, at the level named. -/
def resetAsked (s : State) (level : ResetLevel) (e : EngineId) (f : Nat) (absorb : Bool) : State :=
  match level with
  | .facet => if present s e then requestFacet s e f absorb sourceSignal else s
  | .engine => requestReset s e absorb false false 1 sourceSignal 0
  | .group => requestGroup s absorb false sourceSignal
  | .chip => requestGroup s absorb true sourceSignal

/-- RST_REQ rises (15 R400-R403, R406). -/
def execRstReq (level : ResetLevel) (e : EngineId) (facet : Fin 8) (absorb : Bool) (s : State) : Out :=
  .next (settleAll (resetAsked s level e facet.val absorb))

/-- A level has nothing in flight left (15 R405). -/
def resetFinished (s : State) (level : ResetLevel) (e : EngineId) (f : Nat) : State :=
  match level with
  | .facet => facetDone s e f
  | .engine => engineDone s e
  | _ => groupDone s

/-- RST_DONE (01 R58-R60, 15 R405). -/
def execRstDone (level : ResetLevel) (e : EngineId) (facet : Fin 8) (s : State) : Out :=
  .next (settle (resetFinished s level e facet.val) e)

/-- RST_REQ falls (15 R405). -/
def execRstReqRelease (level : ResetLevel) (e : EngineId) (facet : Fin 8) (s : State) : Out :=
  .next (settle (requestFalls s level e facet.val) e)

/-- STAGE_REARM: stage 6 of bring-up (15 R414, 09 R254). -/
def execStageRearm (e : EngineId) (s : State) : Out := .next (settle (rearm s e) e)

end Sys2Proof.Machine
end

