-- ==== Sys2Proof/Machine/Dispatch.lean ====
section
/-!
DEFINITION. One arm per command of the table: each arm calls the command's meaning.
-/

namespace Sys2Proof.Machine

open Sys2Proof

def exec (i : Instr) (s : State) : Host.Outcome State Fault Refusal :=
  match i with
  | .nop x => Sys2Proof.Machine.execNop x s
  | .fill x => Sys2Proof.Machine.execFill x s
  | .fenceStream x => Sys2Proof.Machine.execFenceStream x s
  | .fenceEngine x => Sys2Proof.Machine.execFenceEngine x s
  | .copyLocal x => Sys2Proof.Machine.execCopyLocal x s
  | .copyMirror x => Sys2Proof.Machine.execCopyMirror x s
  | .copyAddf32 x => Sys2Proof.Machine.execCopyAddf32 x s
  | .prism x => Sys2Proof.Machine.execPrism x s
  | .encode x => Sys2Proof.Machine.execEncode x s
  | .delta x => Sys2Proof.Machine.execDelta x s
  | .decode x => Sys2Proof.Machine.execDecode x s
  | .rebuild x => Sys2Proof.Machine.execRebuild x s
  | .rebuildDrill x => Sys2Proof.Machine.execRebuildDrill x s
  | .verifyCheck x => Sys2Proof.Machine.execVerifyCheck x s
  | .verifyReencode x => Sys2Proof.Machine.execVerifyReencode x s
  | .accopen x => Sys2Proof.Machine.execAccopen x s
  | .accum x => Sys2Proof.Machine.execAccum x s
  | .accclose x => Sys2Proof.Machine.execAccclose x s
  | .acccloseDiscard x => Sys2Proof.Machine.execAcccloseDiscard x s
  | .seal x => Sys2Proof.Machine.execSeal x s
  | .normPublish x => Sys2Proof.Machine.execNormPublish x s
  | .normDecide x => Sys2Proof.Machine.execNormDecide x s
  | .sweep x => Sys2Proof.Machine.execSweep x s
  | .commit x => Sys2Proof.Machine.execCommit x s
  | .commitAbort x => Sys2Proof.Machine.execCommitAbort x s
  | .commitQuiesce x => Sys2Proof.Machine.execCommitQuiesce x s
  | .steprec x => Sys2Proof.Machine.execSteprec x s
  | .migrate x => Sys2Proof.Machine.execMigrate x s
  | .prefetch x => Sys2Proof.Machine.execPrefetch x s
  | .applypend x => Sys2Proof.Machine.execApplypend x s
  | .digestPanes x => Sys2Proof.Machine.execDigestPanes x s
  | .digestTree x => Sys2Proof.Machine.execDigestTree x s
  | .digestTapclose x => Sys2Proof.Machine.execDigestTapclose x s
  | .compare x => Sys2Proof.Machine.execCompare x s
  | .aperture x => Sys2Proof.Machine.execAperture x s
  | .silverRun x => Sys2Proof.Machine.execSilverRun x s
  | .silverAbandon x => Sys2Proof.Machine.execSilverAbandon x s
  | .restorePrepare x => Sys2Proof.Machine.execRestorePrepare x s
  | .restoreLoad x => Sys2Proof.Machine.execRestoreLoad x s
  | .restoreFinish x => Sys2Proof.Machine.execRestoreFinish x s
  | .instructionArrival w0 w1 w2 w3 => Sys2Proof.Machine.execInstructionArrival w0 w1 w2 w3 s
  | .stepCounterValid value => Sys2Proof.Machine.execStepCounterValid value s
  | .paneRowRetire e facet => Sys2Proof.Machine.execPaneRowRetire e facet s
  | .lanePaneComplete e facet => Sys2Proof.Machine.execLanePaneComplete e facet s
  | .operationComplete e op => Sys2Proof.Machine.execOperationComplete e op s
  | .memResponse e tag status poisoned writeAck => Sys2Proof.Machine.execMemResponse e tag status poisoned writeAck s
  | .presenceLookup e pane => Sys2Proof.Machine.execPresenceLookup e pane s
  | .codedWrite e granule byteEn data => Sys2Proof.Machine.execCodedWrite e granule byteEn data s
  | .privateEntryAccess e granule write => Sys2Proof.Machine.execPrivateEntryAccess e granule write s
  | .tapWrite e granule byteEn data => Sys2Proof.Machine.execTapWrite e granule byteEn data s
  | .tierCompletion request error => Sys2Proof.Machine.execTierCompletion request error s
  | .tierLateTimeout request => Sys2Proof.Machine.execTierLateTimeout request s
  | .deltaReceive e c => Sys2Proof.Machine.execDeltaReceive e c s
  | .foldPane e => Sys2Proof.Machine.execFoldPane e s
  | .deltaAckReceive e c => Sys2Proof.Machine.execDeltaAckReceive e c s
  | .accumWriteReceive e c => Sys2Proof.Machine.execAccumWriteReceive e c s
  | .gparityReceive e c => Sys2Proof.Machine.execGparityReceive e c s
  | .gparityAckReceive e c => Sys2Proof.Machine.execGparityAckReceive e c s
  | .coldParityReceive e c => Sys2Proof.Machine.execColdParityReceive e c s
  | .dreadReqChain e c => Sys2Proof.Machine.execDreadReqChain e c s
  | .dreadReqGather e c => Sys2Proof.Machine.execDreadReqGather e c s
  | .dreadReqRelease e c => Sys2Proof.Machine.execDreadReqRelease e c s
  | .dreadRespReceive e c => Sys2Proof.Machine.execDreadRespReceive e c s
  | .rebuildSumReceive e c => Sys2Proof.Machine.execRebuildSumReceive e c s
  | .rebuildSumHandoff e c => Sys2Proof.Machine.execRebuildSumHandoff e c s
  | .rebuildSumRepair e c => Sys2Proof.Machine.execRebuildSumRepair e c s
  | .rebuildAckReceive e c => Sys2Proof.Machine.execRebuildAckReceive e c s
  | .mirrorReqSegment e c => Sys2Proof.Machine.execMirrorReqSegment e c s
  | .mirrorReqDigest e c => Sys2Proof.Machine.execMirrorReqDigest e c s
  | .mirrorReqNode e c => Sys2Proof.Machine.execMirrorReqNode e c s
  | .mirrorReqArbitrate e c => Sys2Proof.Machine.execMirrorReqArbitrate e c s
  | .mirrorReqFromMirror e c => Sys2Proof.Machine.execMirrorReqFromMirror e c s
  | .mirrorRespReceive e c => Sys2Proof.Machine.execMirrorRespReceive e c s
  | .restoreXferReceive e c => Sys2Proof.Machine.execRestoreXferReceive e c s
  | .sAckReceive e c => Sys2Proof.Machine.execSAckReceive e c s
  | .nakReceive e c => Sys2Proof.Machine.execNakReceive e c s
  | .nakStaleGen e c => Sys2Proof.Machine.execNakStaleGen e c s
  | .nakAbsent e c => Sys2Proof.Machine.execNakAbsent e c s
  | .nakRefused e c => Sys2Proof.Machine.execNakRefused e c s
  | .resendReceive e c => Sys2Proof.Machine.execResendReceive e c s
  | .stubFabricRequest e c => Sys2Proof.Machine.execStubFabricRequest e c s
  | .creditGrant e vc => Sys2Proof.Machine.execCreditGrant e vc s
  | .fabricResendTimeout e chip dst vc => Sys2Proof.Machine.execFabricResendTimeout e chip dst vc s
  | .genHoldTimeout e vc own => Sys2Proof.Machine.execGenHoldTimeout e vc own s
  | .genRetryInterval e tag => Sys2Proof.Machine.execGenRetryInterval e tag s
  | .accOpenWaitTimeout e srcChip srcEngine => Sys2Proof.Machine.execAccOpenWaitTimeout e srcChip srcEngine s
  | .accCloseTimeout e group => Sys2Proof.Machine.execAccCloseTimeout e group s
  | .stageWaitTimeout e facet => Sys2Proof.Machine.execStageWaitTimeout e facet s
  | .mirrorWaitTimeout e srcChip tag => Sys2Proof.Machine.execMirrorWaitTimeout e srcChip tag s
  | .commitTimeout e => Sys2Proof.Machine.execCommitTimeout e s
  | .apertureTimeout e => Sys2Proof.Machine.execApertureTimeout e s
  | .chainTimeout e install => Sys2Proof.Machine.execChainTimeout e install s
  | .drainTimeout e => Sys2Proof.Machine.execDrainTimeout e s
  | .autofillGapEnd e facet => Sys2Proof.Machine.execAutofillGapEnd e facet s
  | .activityWindow e facet => Sys2Proof.Machine.execActivityWindow e facet s
  | .crossbarWindow => Sys2Proof.Machine.execCrossbarWindow s
  | .powerEstimate => Sys2Proof.Machine.execPowerEstimate s
  | .ceLeakInterval e => Sys2Proof.Machine.execCeLeakInterval e s
  | .riskPeriod => Sys2Proof.Machine.execRiskPeriod s
  | .inputStale input => Sys2Proof.Machine.execInputStale input s
  | .leaseExpiry => Sys2Proof.Machine.execLeaseExpiry s
  | .lockoutExpiry => Sys2Proof.Machine.execLockoutExpiry s
  | .drillPeriod e => Sys2Proof.Machine.execDrillPeriod e s
  | .scrubRow e => Sys2Proof.Machine.execScrubRow e s
  | .backgroundInstall e => Sys2Proof.Machine.execBackgroundInstall e s
  | .coldRepair e => Sys2Proof.Machine.execColdRepair e s
  | .latchFireAtTime => Sys2Proof.Machine.execLatchFireAtTime s
  | .peerRetry e chip expired => Sys2Proof.Machine.execPeerRetry e chip expired s
  | .facetPowerStagger => Sys2Proof.Machine.execFacetPowerStagger s
  | .commitReady e => Sys2Proof.Machine.execCommitReady e s
  | .commitRelease step mode => Sys2Proof.Machine.execCommitRelease step mode s
  | .apertureReady e => Sys2Proof.Machine.execApertureReady e s
  | .apertureRelease fail => Sys2Proof.Machine.execApertureRelease fail s
  | .apertureCopyEnd e => Sys2Proof.Machine.execApertureCopyEnd e s
  | .mapSafePoint e => Sys2Proof.Machine.execMapSafePoint e s
  | .vcArbitrationRound e => Sys2Proof.Machine.execVcArbitrationRound e s
  | .registerWrite t => Sys2Proof.Machine.execRegisterWrite t s
  | .blobSegmentWrite t => Sys2Proof.Machine.execBlobSegmentWrite t s
  | .groupCommit sel index sub => Sys2Proof.Machine.execGroupCommit sel index sub s
  | .groupDiscard sel index sub => Sys2Proof.Machine.execGroupDiscard sel index sub s
  | .mapStage sel segment data => Sys2Proof.Machine.execMapStage sel segment data s
  | .ringImport sel segment data => Sys2Proof.Machine.execRingImport sel segment data s
  | .jobBlob sel segment data => Sys2Proof.Machine.execJobBlob sel segment data s
  | .jobArm sel segment data => Sys2Proof.Machine.execJobArm sel segment data s
  | .jobEnd sel value => Sys2Proof.Machine.execJobEnd sel value s
  | .latchCancel => Sys2Proof.Machine.execLatchCancel s
  | .latchAtTime => Sys2Proof.Machine.execLatchAtTime s
  | .latchAtStep => Sys2Proof.Machine.execLatchAtStep s
  | .resetRequestFacet sel absorb facet => Sys2Proof.Machine.execResetRequestFacet sel absorb facet s
  | .resetRequestEngine sel absorb => Sys2Proof.Machine.execResetRequestEngine sel absorb s
  | .resetRequestGroup sel absorb => Sys2Proof.Machine.execResetRequestGroup sel absorb s
  | .flipmaskArm sel value => Sys2Proof.Machine.execFlipmaskArm sel value s
  | .ledgerPeekWrite sel data => Sys2Proof.Machine.execLedgerPeekWrite sel data s
  | .authServiceUnlock segment data => Sys2Proof.Machine.execAuthServiceUnlock segment data s
  | .authReturn segment data => Sys2Proof.Machine.execAuthReturn segment data s
  | .lcRelock value => Sys2Proof.Machine.execLcRelock value s
  | .lcAdvanceProvisioned => Sys2Proof.Machine.execLcAdvanceProvisioned s
  | .lcAdvanceField => Sys2Proof.Machine.execLcAdvanceField s
  | .lcAdvanceReturn => Sys2Proof.Machine.execLcAdvanceReturn s
  | .fuseReadback blown => Sys2Proof.Machine.execFuseReadback blown s
  | .eventDeliver => Sys2Proof.Machine.execEventDeliver s
  | .timeBackward time => Sys2Proof.Machine.execTimeBackward time s
  | .powerOn => Sys2Proof.Machine.execPowerOn s
  | .rstReq level e facet absorb => Sys2Proof.Machine.execRstReq level e facet absorb s
  | .rstDone level e facet => Sys2Proof.Machine.execRstDone level e facet s
  | .rstReqRelease level e facet => Sys2Proof.Machine.execRstReqRelease level e facet s
  | .clockLost domain => Sys2Proof.Machine.execClockLost domain s
  | .powerLost e => Sys2Proof.Machine.execPowerLost e s
  | .stagePowerAndClocks e => Sys2Proof.Machine.execStagePowerAndClocks e s
  | .stageFusesAndSram e fuses lcFuses failedMacros => Sys2Proof.Machine.execStageFusesAndSram e fuses lcFuses failedMacros s
  | .stageMemoryPath e reads repairs => Sys2Proof.Machine.execStageMemoryPath e reads repairs s
  | .stageDictionaryImage e image => Sys2Proof.Machine.execStageDictionaryImage e image s
  | .stageStripeMapAndPeers e => Sys2Proof.Machine.execStageStripeMapAndPeers e s
  | .stageKnownAnswerTest e failedFacets portOk => Sys2Proof.Machine.execStageKnownAnswerTest e failedFacets portOk s
  | .stageRearm e => Sys2Proof.Machine.execStageRearm e s
  | .ieee1687Access e instrument => Sys2Proof.Machine.execIeee1687Access e instrument s
  | .pwrGood e facet => Sys2Proof.Machine.execPwrGood e facet s
  | .pwrGoodLate e facet => Sys2Proof.Machine.execPwrGoodLate e facet s
  | .coldRepairWaitTimeout e op => Sys2Proof.Machine.execColdRepairWaitTimeout e op s
  | .arbitrationDigestTimeout e arbitration => Sys2Proof.Machine.execArbitrationDigestTimeout e arbitration s
  | .drillRow e => Sys2Proof.Machine.execDrillRow e s

end Sys2Proof.Machine
end

