-- ==== Sys2Proof/Safety.lean ====
section
/-!
DEFINITION. What counts as a safe step: the block goes on. The spec never stops the block; every error is an effect.
-/

namespace Sys2Proof.Machine

/-- A step goes on to a next state. -/
def Safe (s : State) : Prop := ∃ s', step s = .next s'

end Sys2Proof.Machine
end

