-- ==== Sys2Proof/Certificates/Slice0/Obligations.lean ====
section
/-!
DEFINITION. The statements for the provers. Each says of the model what a rule of spec/ says of the block: what a command's
own effect is, which conditions on the state and its operands alone it needs, and what it leaves unchanged.
-/

/-! ## Vocabulary -/

namespace Sys2Proof.Claims

open Sys2Proof Sys2Proof.Machine

/-- The command answers a next state of which `P` holds. -/
def Next (o : Out) (P : State → Prop) : Prop := ∃ t, o = .next t ∧ P t

/-- Nothing outside engine `e` and the group's records changes. -/
def Apart (s t : State) (e : EngineId) : Prop :=
  (∀ d, d ≠ e → t.eng d = s.eng d) ∧ t.tier = s.tier ∧ t.pending = s.pending ∧ t.time = s.time
  ∧ t.stepValue = s.stepValue ∧ t.stepValid = s.stepValid

/-- No byte, pane, slot, request or map of engine `d` changes: every part of it but the issue side, the counters of its
dictionary and the loupe. -/
def SameData (s t : State) (d : EngineId) : Prop :=
  (t.eng d).mem = (s.eng d).mem ∧ (t.eng d).job = (s.eng d).job ∧ (t.eng d).fab = (s.eng d).fab
  ∧ (t.eng d).reb = (s.eng d).reb ∧ (t.eng d).tier = (s.eng d).tier ∧ (t.eng d).snap = (s.eng d).snap
  ∧ (t.eng d).bring = (s.eng d).bring ∧ (t.eng d).dict.regs = (s.eng d).dict.regs
  ∧ (t.eng d).dict.blobs = (s.eng d).dict.blobs

/-- The frame of a command that only touches the issue side of engine `e`: no data of any engine, no other engine, no tier byte
and no group state changes. -/
def OnlyIssue (s t : State) (e : EngineId) : Prop := Apart s t e ∧ SameData s t e ∧ t.group = s.group

/-- Nothing but the issue sides, the counters and the loupe's counts of any engine changes. -/
def NoData (s t : State) : Prop :=
  (∀ d, SameData s t d) ∧ t.tier = s.tier ∧ t.pending = s.pending ∧ t.time = s.time ∧ t.group = s.group

/-- Engine `e` takes instruction `i` from its stream at once (12 R336): it names `e`, which is present, nothing of its stream
waits, the issue conditions of 01 R38, R39 and 12 R338 hold, and checks 1 to 3 of 12 R342 pass. -/
structure Issues (s : State) (e : EngineId) (i : RawInstr) : Prop where
  target  : i.body.target.toNat = e.val
  present : present s e = true
  head    : streamQueue s e i.stream = []
  free    : canIssue s e i = true
  rsvd    : i.body.rsvd = 0
  mode    : i.body.cntMode ≠ 3
  armed   : armed s e = true ∨ runsUnarmed i = true

/-- The state in which an issued instruction is checked: it is counted and CNT_MODE has acted (12 R339, R342). -/
def issued (s : State) (e : EngineId) (i : RawInstr) : State := countAtIssue (bump s e cntInstrIssued 1) e i

/-- The operations of an engine by number and instruction. -/
def opList (s : State) (e : EngineId) : List (Nat × RawInstr) := (s.eng e).iss.ops.map (fun o => (o.id, o.ins))

/-- Instruction `i` has completed without error: its counter moved by `n`, its flag stays, OPS_COMPLETED counts it, and no
operation is added or removed (01 R42, 12 R340). -/
def Completed (s t : State) (e : EngineId) (i : RawInstr) (n : Nat) : Prop :=
  let c := i.body.counter.toNat
  arrival t e c = { value := (arrival s e c).value + BitVec.ofNat 32 n, error := (arrival s e c).error }
  ∧ (∀ k, k ≠ c → arrival t e k = arrival s e k)
  ∧ counter t e cntOpsCompleted 0 = (counter s e cntOpsCompleted 0 + 1) % 2 ^ 64
  ∧ opList t e = opList s e

/-- Instruction `i` is one more operation beside those there were. -/
def Joined (s t : State) (e : EngineId) (i : RawInstr) : Prop := opList t e = opList s e ++ [((s.eng e).iss.nextId, i)]

/-- The operation that instruction `i` puts in flight, with work `w` and `u` units. -/
def opOf (s : State) (e : EngineId) (i : RawInstr) (facet : Option (Nat × Nat)) (u : Nat) (w : Work) : Op :=
  { id := (s.eng e).iss.nextId, ins := i, facet := facet, units := 0, total := totalOf i u, causes := [], raised := false,
    info := 0, autofill := autofillOn s e, work := w }

/-- Instruction `i` is in flight as one more operation; its counter has not moved (12 R336, R340). -/
def InFlight (s t : State) (e : EngineId) (i : RawInstr) (facet : Option (Nat × Nat)) (u : Nat) (w : Work) : Prop :=
  (t.eng e).iss.ops = (s.eng e).iss.ops ++ [opOf s e i facet u w] ∧ (t.eng e).iss.arrivals = (s.eng e).iss.arrivals
  ∧ (t.eng e).iss.nextId = (s.eng e).iss.nextId + 1

/-- Operation numbers are fresh: every operation in flight and every operation that a facet holds bears a number already
given out. -/
def Numbered (s : State) : Prop :=
  (∀ e, ∀ o ∈ (s.eng e).iss.ops, o.id < (s.eng e).iss.nextId)
  ∧ (∀ b f r, (r ∈ (facetOf s b f).queue ∨ (facetOf s b f).active = some r ∨ (facetOf s b f).filled = some r) →
      r.op < (s.eng (engineOf r.home)).iss.nextId)

/-- Instruction `i` is in flight in the queue of facet `f` of engine `b` with work `w` (04 R127). -/
def OnFacetAt (s t : State) (e : EngineId) (i : RawInstr) (u : Nat) (w : Work) (b f : Nat) : Prop :=
  findOp t e (s.eng e).iss.nextId = some (opOf s e i (some (b, f)) u w)
  ∧ { home := e.val, op := (s.eng e).iss.nextId } ∈ (facetOf t (engineOf b) f).queue
  ∧ (t.eng e).iss.nextId = (s.eng e).iss.nextId + 1 ∧ (t.eng e).iss.ops.length = (s.eng e).iss.ops.length + 1

/-- Instruction `i` is in flight on an array facet with work `w`: its home facet, or one that it was lent (04 R127, R128). -/
def OnFacet (s t : State) (e : EngineId) (i : RawInstr) (u : Nat) (w : Work) : Prop :=
  ∃ b f, OnFacetAt s t e i u w b f ∧ ((i.body.relocatable = false ∨ isRelocatable i.op = false) → b = e.val ∧ f = homeFacet s e i.stream)

end Sys2Proof.Claims

/-! ## Fabric vocabulary -/

namespace Sys2Proof.Claims

open Sys2Proof Sys2Proof.Machine

/-- The command answers the state that engine `e` goes on to from a state of which `P` holds: `P` is the event's own effect,
and `settle` lets everything go on that has become possible (for an idle engine, nothing). -/
def Settled (o : Out) (e : EngineId) (P : State → Prop) : Prop := ∃ v, o = .next (settle v e) ∧ P v

/-- As `Settled`, for an event after which every present engine goes on. -/
def SettledAll (o : Out) (P : State → Prop) : Prop := ∃ v, o = .next (settleAll v) ∧ P v

/-- Only engine `e` and the group's records change, and no tier byte. -/
def Local (s t : State) (e : EngineId) : Prop := (∀ d, d ≠ e → t.eng d = s.eng d) ∧ t.tier = s.tier

/-- Work that only its own event moves on. -/
def resting : Work → Bool
  | .ended | .fence _ | .fill _ | .pass _ | .closing _ _ | .barrier _ _ _ _ | .aperture _ _ _ _ _ | .copy _ _ _ _ _
  | .digest _ _ _ _ _ _ _ => true
  | _ => false

/-- Nothing at engine `e` can go on by itself: no request, read, write, fetch, install or reconciliation waits, no chunk of a pane is
unsent, every operation rests, no drill runs, no abort or end of the job waits, no fault is to be handled, no isolated facet holds work. -/
structure Idle (s : State) (e : EngineId) : Prop where
  held    : (s.eng e).fab.held = []
  fetches : (s.eng e).reb.fetches = []
  inst    : (s.eng e).reb.installs = []
  recons  : (s.eng e).reb.recons = []
  writes  : (s.eng e).mem.writes = []
  reads   : (s.eng e).mem.reads = []
  ops     : ∀ o ∈ (s.eng e).iss.ops, resting o.work = true
  unsent  : ∀ r ∈ (s.eng e).fab.requests, r.hold ≠ .unsent
  abort   : (s.eng e).job.abortFrom = []
  ending  : (s.eng e).job.ending ≠ .due
  queues  : ∀ f, (facetOf s e f).isolated = true → (facetOf s e f).queue = []
  drill   : (s.eng e).lou.drill.running = false
  fault   : (s.eng e).bring.fault = none ∧ (s.eng e).bring.facetFaults = []

/-- A chunk arrives intact at a present engine that has granted a credit of its channel, and is valid (01 R27, R28, R32). -/
structure Valid (s : State) (e : EngineId) (c : Chunk) : Prop where
  present : present s e = true
  credit  : ingressCredits s e c.vc.toNat ≠ 0
  crc     : crcGood c = true
  good    : badChunk c = false

/-- The state in which a request in its turn is performed: it is counted and its flow has moved past it (01 R32). -/
def took (s : State) (e : EngineId) (c : Chunk) : State := advanceFlow (arrived s e c) e c

/-- A valid request of the armed job, in the generation in force and with the next SEQ of its flow, that breaks no pane of its
flow and that nothing makes wait (01 R32, R34, 07 R192, 09 R252). -/
structure Arrives (s : State) (e : EngineId) (c : Chunk) : Prop extends Valid s e c where
  request : isRequest c.k = true
  open_   : (s.eng e).fab.mustCommit = none
  job     : armed s e = true ∧ c.jobId = jobIdOf s e
  gen     : c.mapGen = genOf s e
  seq     : c.seq = (rxFlow s e (rxKey c) c.mapGen).expected
  turn    : flowWaits s e c = false
  pane    : byColumn c.k = true → breaksPane (arrived s e c) e c = false
  free    : waitWhy (took s e c) e c = (took s e c, none)

/-- The response to request `c` as it is sent (01 R36). -/
def response (s : State) (e : EngineId) (c : Chunk) (kind status step : Nat) (payload : List Byte) : Sent :=
  { dest := [c.srcChip.toNat], chunk := respChunk s e c kind status step payload }

/-- Between two states, one response to request `c` is sent and nothing else. -/
def Answered (s t : State) (e : EngineId) (c : Chunk) (kind status step : Nat) (payload : List Byte) : Prop :=
  (t.eng e).fab.egress = (s.eng e).fab.egress ++ [response s e c kind status step payload]

/-- As `Answered`, for a response whose header carries `ext`. -/
def AnsweredExt (s t : State) (e : EngineId) (c : Chunk) (kind status step ext : Nat) (payload : List Byte) : Prop :=
  (t.eng e).fab.egress = (s.eng e).fab.egress ++
    [{ dest := [c.srcChip.toNat], chunk := { respChunk s e c kind status step payload with ext := BitVec.ofNat 29 ext }.seal }]

/-- A valid response to the unanswered request `r` arrives, from a chip whose answer it awaits (01 R36). -/
structure Responds (s : State) (e : EngineId) (c : Chunk) (r : Request) : Prop extends Valid s e c where
  response : isRequest c.k = false ∧ c.k ≠ kindResend
  armed    : armed s e = true
  matched  : matchReq s e c = some r
  awaited  : r.column = none ∨ ∃ h ∈ r.awaited, h.2 = c.srcChip.toNat

end Sys2Proof.Claims

open Sys2Proof Sys2Proof.Machine Sys2Proof.Claims

/-! ## Issue and control -/

/-- Issue counts an instruction and lets CNT_MODE act on its counter (12 R339): ADD changes nothing, CLEAR clears the ERROR flag,
ZERO sets the counter to zero; no other counter, no data and no other engine changes. -/
def Obligations.IssueCounterMode : Prop :=
  ∀ (s : State) (e : EngineId) (i : RawInstr),
    let t := issued s e i
    let c := i.body.counter.toNat
    (i.body.cntMode = 0 → arrival t e c = arrival s e c)
    ∧ (i.body.cntMode = 1 → arrival t e c = { value := (arrival s e c).value, error := false })
    ∧ (i.body.cntMode = 2 → arrival t e c = { value := 0, error := false })
    ∧ (i.body.cntMode = 3 → arrival t e c = arrival s e c)
    ∧ (∀ k, k ≠ c → arrival t e k = arrival s e k)
    ∧ ((i.body.cntMode = 1 ∨ i.body.cntMode = 2) → (t.eng e).iss.counterOut = (s.eng e).iss.counterOut ++
        [{ engine := e.val, index := c, value := (arrival t e c).value, error := (arrival t e c).error }])
    ∧ counter t e cntInstrIssued 0 = (counter s e cntInstrIssued 0 + 1) % 2 ^ 64
    ∧ (t.eng e).iss.ops = (s.eng e).iss.ops ∧ OnlyIssue s t e

/-- NOP, FILL and FENCE in both scopes do their own work at dispatch: NOP completes and adds 1, FILL joins its home facet, where it streams
at once if nothing else is there, a FENCE waits for the operations issued before it, of its stream or of the engine (12 R343, 04 R125,
R127).
The model's own choices and readings that it rests on: notes/assumptions/13.md. -/
def Obligations.ControlInstructions : Prop :=
  (∀ (s : State) (e : EngineId) (b : EngineInstr), let i := rowInstr 0x00 b 0 0
    let u := issued s e i
    Issues s e i → b.w1 = 0 → b.w2 = 0 → b.w3 = 0 →
    Next (exec (.nop b) s) (fun t => Completed u t e i 1 ∧ OnlyIssue s t e))
  ∧ (∀ (s : State) (e : EngineId) (b : EngineInstr), let i := rowInstr 0x01 b 0 0
    let u := issued s e i
    Numbered s → Issues s e i → b.w1 = 0 → i.f2 63 32 = 0 → i.f2 31 0 ≠ 0 → b.w3 = 0 →
    let n := i.f2 31 0
    let f := homeFacet u e i.stream
    let x := facetOf s e f
    Next (exec (.fill b) s) (fun t => NoData s t
      ∧ (OnFacetAt u t e i 1 (.fill n) e.val f ∨ OnFacetAt u t e i 1 (.fill (n - min 256 n)) e.val f)
      ∧ (x.queue = [] → x.active = none → x.isolated = false →
          OnFacetAt u t e i 1 (.fill (n - min 256 n)) e.val f
          ∧ (facetOf t e f).active = some { home := e.val, op := (s.eng e).iss.nextId })))
  ∧ (∀ (s : State) (e : EngineId) (b : EngineInstr), let i := rowInstr 0x02 b 1 0
    let u := issued s e i
    Issues s e i → b.w1 = 0 → b.w2 = 0 → i.f3 63 1 = 0 →
    Next (exec (.fenceStream b) s) (fun t =>
      InFlight u t e i none 1 (.fence (((s.eng e).iss.ops.filter (fun o => o.ins.stream == i.stream)).map (·.id)))
      ∧ OnlyIssue s t e))
  ∧ (∀ (s : State) (e : EngineId) (b : EngineInstr), let i := rowInstr 0x02 b 1 1
    let u := issued s e i
    Issues s e i → b.w1 = 0 → b.w2 = 0 → i.f3 63 1 = 0 →
    Next (exec (.fenceEngine b) s) (fun t =>
      InFlight u t e i none 1 (.fence ((s.eng e).iss.ops.map (·.id))) ∧ OnlyIssue s t e))

/-! ## The passes of the prism array -/

/-- PRISM, ENCODE, DELTA and DECODE in flight: where the pass conditions of 04 R110-R122 and 12 R345, R346 hold, the pass joins
a facet's queue with the coefficients, inputs, outputs and rows that its words and descriptors name, none done yet, and no byte
of any store changes.
The model's own choices and readings that it rests on: notes/assumptions/23.md. -/
def Obligations.PassesStart : Prop :=
  (∀ (s : State) (e : EngineId) (b : EngineInstr) (bs : List Byte) (ins : List InBind) (outs : List OutBind),
    let i := rowInstr 0x10 b 0 0
    let u := issued s e i
    let c := parseCoeff (i.f3 47 0)
    let d := i.f1 15 0
    Numbered s → Issues s e i → passReserved i = false → i.f1 31 16 = 0 → i.window = 0 → i.f3 49 48 = 0 →
    coeffStatus (geo u e) c = none → i.panes ≠ 0 → descReadable u e d 4 = true → descEntries u e d 4 = some bs →
    ((parsePass bs).take 24).mapM (inBinding u e i.panes) = some ins →
    ((parsePass bs).drop 24).mapM (outBinding u e i.panes) = some outs →
    outs.all (fabricOk u e) = true → (outs.any isFabric = true → armed u e = true) →
    Next (exec (.prism b) s) (fun t => NoData s t ∧
      OnFacet u t e i i.panes (.pass (passWork i c (((parsePass bs).map (·.column)).headD 0) ins outs))))
  ∧ (∀ (s : State) (e : EngineId) (b : EngineInstr) (ins outs : List Walk),
    let i := rowInstr 0x11 b 0 0
    let u := issued s e i
    let c := parseCoeff (i.f3 47 0)
    let g := geo u e
    Numbered s → Issues s e i → passReserved i = false → i.window = 0 → i.f3 49 49 = 0 → c.kind = 1 →
    coeffStatus g c = none → i.panes ≠ 0 →
    i.f1 15 0 + g.k ≤ reg u e regDescCount → i.f1 31 16 + encodeRows g c ≤ reg u e regDescCount →
    descReadable u e (i.f1 15 0) g.k = true → descReadable u e (i.f1 31 16) (encodeRows g c) = true →
    passWalkers u e (i.f1 15 0) g.k i.panes = some ins → passWalkers u e (i.f1 31 16) (encodeRows g c) i.panes = some outs →
    Next (exec (.encode b) s) (fun t => NoData s t ∧ OnFacet u t e i i.panes (.pass (passWork i c 0 (ins.map .mem)
      (outs.map (if i.f3 48 48 == 1 then .xormem else .mem))))))
  ∧ (∀ (s : State) (e : EngineId) (b : EngineInstr) (w : Walk),
    let i := rowInstr 0x12 b 0 0
    let u := issued s e i
    Numbered s → Issues s e i → passReserved i = false → i.f1 31 16 = 0 → i.f3 49 0 = 0 → rowsOk u e i = true →
    windowClass u e i = 0 → i.panes ≠ 0 → i.f1 15 0 < reg u e regDescCount → descReadable u e (i.f1 15 0) 1 = true →
    passWalker u e (i.f1 15 0) i.panes = some w →
    Next (exec (.delta b) s) (fun t => NoData s t ∧
      OnFacet u t e i i.panes (.pass (passWork i (parseCoeff 0) 0 [.own i.window, .mem w] [.delta i.window]))))
  ∧ (∀ (s : State) (e : EngineId) (b : EngineInstr) (cols : List Nat) (outs : List Walk),
    let i := rowInstr 0x13 b 0 0
    let u := issued s e i
    let c := parseCoeff (i.f3 47 0)
    let g := geo u e
    Numbered s → Issues s e i → passReserved i = false → i.f1 15 0 = 0 → i.f3 49 49 = 0 → c.kind = 2 → rowsOk u e i = true →
    coeffStatus g c = none → i.panes ≠ 0 → i.f1 31 16 + decodeRows g c ≤ reg u e regDescCount →
    descReadable u e (i.f1 31 16) (decodeRows g c) = true → survivors g c.erased = some cols →
    passWalkers u e (i.f1 31 16) (decodeRows g c) i.panes = some outs →
    Next (exec (.decode b) s) (fun t => NoData s t ∧ OnFacet u t e i i.panes (.pass (passWork i c 0 (cols.map .gathered)
      (outs.map (if i.f3 48 48 == 1 then .compare else .mem))))))

/-- REBUILD, its drill form and VERIFY in both modes in flight: their rows, none done yet, join a facet's queue, and no byte of
any store changes (12 R345, R346, 11 R318).
The model's own choices and readings that it rests on: notes/assumptions/23.md. -/
def Obligations.RowOperationsStart : Prop :=
  (∀ (s : State) (e : EngineId) (b : EngineInstr),
    let i := rowInstr 0x14 b (2 ^ 48) 0
    let u := issued s e i
    let c := parseCoeff (i.f3 47 0)
    Numbered s → Issues s e i → passReserved i = false → i.f1 31 0 = 0 → i.f3 49 49 = 0 → rowsOk u e i = true →
    windowClass u e i ≠ 1 → c.kind = 3 → c.outFirst = 0 → c.erased / 2 ^ (geo u e).n = 0 →
    (survivors (geo u e) c.erased).isSome = true → i.panes ≠ 0 →
    Next (exec (.rebuild b) s) (fun t => NoData s t ∧ OnFacet u t e i i.panes (.rows (rowsOf i c.erased none))))
  ∧ (∀ (s : State) (e : EngineId) (b : EngineInstr) (w : Walk),
    let i := rowInstr 0x14 b (2 ^ 48) (2 ^ 48)
    let u := issued s e i
    let c := parseCoeff (i.f3 47 0)
    Numbered s → Issues s e i → passReserved i = false → i.f1 15 0 = 0 → rowsOk u e i = true →
    i.f1 31 16 < reg u e regDescCount → c.kind = 3 → c.outFirst = 0 → c.erased / 2 ^ (geo u e).n = 0 →
    (survivors (geo u e) c.erased).isSome = true → i.panes ≠ 0 → descReadable u e (i.f1 31 16) 1 = true →
    passWalker u e (i.f1 31 16) i.panes = some w →
    Next (exec (.rebuildDrill b) s) (fun t => NoData s t ∧ OnFacet u t e i i.panes (.rows (rowsOf i c.erased (some w)))))
  ∧ (∀ (s : State) (e : EngineId) (b : EngineInstr),
    let i := rowInstr 0x15 b (2 ^ 48) 0
    let u := issued s e i
    Numbered s → Issues s e i → passReserved i = false → i.f1 31 0 = 0 → i.f3 47 0 = 0 → i.f3 49 49 = 0 → rowsOk u e i = true →
    i.panes ≠ 0 →
    Next (exec (.verifyCheck b) s) (fun t => NoData s t ∧ OnFacet u t e i i.panes (.rows (rowsOf i 0 none))))
  ∧ (∀ (s : State) (e : EngineId) (b : EngineInstr),
    let i := rowInstr 0x15 b (2 ^ 48) (2 ^ 48)
    let u := issued s e i
    Numbered s → Issues s e i → passReserved i = false → i.f1 31 0 = 0 → i.f3 47 0 = 0 → i.f3 49 49 = 0 → rowsOk u e i = true →
    i.panes ≠ 0 →
    Next (exec (.verifyReencode b) s) (fun t => NoData s t ∧ OnFacet u t e i i.panes (.rows (rowsOf i 0 none))))

/-- Pane-row `j` of a walk lies in the stack and outside every coded window, and can be read. -/
def Sys2Proof.Claims.PlainRow (s : State) (e : EngineId) (w : Walk) (j : Nat) : Prop :=
  walkPanes s e w (w.rowElems j) = [] ∧ ∀ a ∈ w.rowElems j, elemInside w a = true ∧ readable s e a.toNat (2 ^ w.elog) = true

/-- DIGEST PANES and TREE, with valid fields and descriptors, join a facet's queue with the walks and the count that their words
name, no digest formed yet and no byte of any store changed. TAPCLOSE writes its 64-byte record into its slot of the tap ring and no
other byte of the stack, starts its tap again, leaves the other taps, and completes; one whose tap entry is not VALID, or whose ring is
unconfigured, completes with an error, every tap and byte as before (11 R308, R310, 12 R351). The last pane-row of a DIGEST on a facet of its own
engine, read from outside the coded windows: PANES writes its digest into its 32 bytes of the destination, TREE the nodes over all
digests, no other byte changes, and the operation completes.
COPY with valid fields and descriptors is in flight: LOCAL and ADDF32 with their two walks, and ADDF32 counts as non-exact; MIRROR of a
buffer here, whose owner is not lost, with the panes that it is to fetch. No byte changes yet. The last pane-row of LOCAL or
ADDF32, outside the coded windows, is written to the destination as it is read, or added to it in FP32, and the copy completes. COMPARE of a buffer here that covers
panes is in flight as one more operation, and no byte of the stack or the tier changes (12 R344, 11 R312, R331).
The model's own choices and readings that it rests on: notes/assumptions/38.md, notes/assumptions/62.md. -/
def Obligations.DigestsAndCopies : Prop :=
  (
    (∀ (s : State) (e : EngineId) (b : EngineInstr) (src dst : Walk) (tree : Bool),
      let i := rowInstr 0x40 b 3 (if tree then 1 else 0)
      let u := issued s e i
      let n := i.f2 23 0
      Numbered s → Issues s e i → i.f1 63 32 = 0 → i.f2 63 24 = 0 → i.f3 63 3 = 0 → (tree = false → i.f3 2 2 = 0) → n ≠ 0 →
      i.f1 15 0 < reg u e regDescCount → i.f1 31 16 < reg u e regDescCount → descReadable u e (i.f1 15 0) 1 = true →
      descReadable u e (i.f1 31 16) 1 = true → passWalker u e (i.f1 15 0) n = some src → walker u e (i.f1 31 16) = some dst →
      digestBytes tree (i.f3 2 2 == 1) n ≤ dst.bytes →
      Next (exec (if tree then .digestTree b else .digestPanes b) s) (fun t => NoData s t ∧
        OnFacet u t e i n (.digest src dst n tree (i.f3 2 2 == 1) [] 0)))
    ∧ (∀ (s : State) (e : EngineId) (b : EngineInstr),
      let i := rowInstr 0x40 b 3 2
      let u := issued s e i
      let k := i.f3 5 4
      let step := i.f3 63 32
      let at_ := reg u e regTapRingBase * 4096 + 64 * (step % 1024 * 4 + k)
      Issues s e i → b.w1 = 0 → b.w2 = 0 → i.f3 31 6 = 0 → i.f3 3 2 = 0 → (tapEntry u e k).1 = true → reg u e regTapRingBase ≠ 0 →
      (s.eng e).mem.hbm.wf = true → at_ + 64 ≤ stackBytes →
      Next (exec (.digestTapclose b) s) (fun t => Completed u t e i 1 ∧ Apart s t e ∧ t.group = s.group
        ∧ hbm t e at_ 64 = tapRecord step (tapEntry u e k).2.1 k (tapSum u e k)
        ∧ (∀ a, a < at_ ∨ at_ + 64 ≤ a → (t.eng e).mem.hbm.byteAt a = (s.eng e).mem.hbm.byteAt a)
        ∧ AList.get? (t.eng e).lou.taps k = none
        ∧ (∀ j, j ≠ k → AList.get? (t.eng e).lou.taps j = AList.get? (s.eng e).lou.taps j)))
    ∧ (∀ (s : State) (e : EngineId) (b : EngineInstr),
      let i := rowInstr 0x40 b 3 2
      let u := issued s e i
      Issues s e i → b.w1 = 0 → b.w2 = 0 → i.f3 31 6 = 0 → i.f3 3 2 = 0 →
      (tapEntry u e (i.f3 5 4)).1 = false ∨ reg u e regTapRingBase = 0 →
      Next (exec (.digestTapclose b) s) (fun t =>
        arrival t e i.body.counter.toNat = { value := (arrival u e i.body.counter.toNat).value + 1, error := true }
        ∧ opList t e = opList u e ∧ (t.eng e).lou = (u.eng e).lou ∧ SameData s t e ∧ Apart s t e))
    ∧ (∀ (s : State) (e : EngineId) (id f : Nat) (o : Op) (src dst : Walk) (tree rootOnly : Bool) (ds : List (List Byte)) (lent : Nat),
      let j := ds.length
      let d := paneDigest (walkBytes s e src j)
      let out := if tree then digestOut true rootOnly (ds ++ [d]) else d
      let parts := if tree then dst.parts 0 out.length else dst.parts (32 * j) 32
      findOp s e id = some o → o.work = .digest src dst (j + 1) tree rootOnly ds lent → o.facet = some (e.val, f) →
      isActive s e o = true → opBusy s e id = false → PlainRow s e src j → digestWaits s e src j = false →
      partsStatus s e parts = 0 →
      SettledAll (exec (.operationComplete e id) s) (fun v =>
        (v.eng e).mem.hbm = ((writeParts s e id parts out).eng e).mem.hbm ∧ opList v e = (opList s e).filter (·.1 != id)
        ∧ (∀ d, (v.eng d).job = (s.eng d).job ∧ (v.eng d).fab = (s.eng d).fab ∧ (d ≠ e → (v.eng d).mem = (s.eng d).mem))
        ∧ v.tier = s.tier)))
  ∧ (
    (∀ (s : State) (e : EngineId) (b : EngineInstr) (src dst : Walk),
      let i := rowInstr 0x08 b 3 0
      let u := issued s e i
      let n := i.f2 31 0
      Issues s e i → i.f1 63 32 = 0 → i.f2 63 32 = 0 → i.f3 63 2 = 0 → n ≠ 0 →
      i.f1 15 0 < reg u e regDescCount → i.f1 31 16 < reg u e regDescCount → descReadable u e (i.f1 15 0) 1 = true →
      descReadable u e (i.f1 31 16) 1 = true → passWalker u e (i.f1 15 0) n = some src → passWalker u e (i.f1 31 16) n = some dst →
      walkTouches u e dst n = false → walkTouchesAcc u e dst n = false →
      Next (exec (.copyLocal b) s) (fun t => InFlight u t e i none n (.copy src dst n false 0) ∧ OnlyIssue s t e))
    ∧ (∀ (s : State) (e : EngineId) (b : EngineInstr) (src dst : Walk),
      let i := rowInstr 0x08 b 3 2
      let u := issued s e i
      let n := i.f2 31 0
      Issues s e i → i.f1 63 32 = 0 → i.f2 63 32 = 0 → i.f3 63 2 = 0 → n ≠ 0 → nonExact u e i = true →
      i.f1 15 0 < reg u e regDescCount → i.f1 31 16 < reg u e regDescCount → descReadable u e (i.f1 15 0) 1 = true →
      descReadable u e (i.f1 31 16) 1 = true → passWalker u e (i.f1 15 0) n = some src → passWalker u e (i.f1 31 16) n = some dst →
      walkTouches u e dst n = false → walkTouchesAcc u e dst n = false → src.elog = 2 → dst.elog = 2 →
      Next (exec (.copyAddf32 b) s) (fun t => InFlight u t e i none n (.copy src dst n true 0) ∧ OnlyIssue s t e
        ∧ (t.eng e).lou.nondetNon = ((s.eng e).lou.nondetNon + 1) % 2 ^ 63))
    ∧ (∀ (s : State) (e : EngineId) (b : EngineInstr),
      let i := rowInstr 0x08 b 3 1
      let u := issued s e i
      let n := i.f2 31 0
      let entry := i.f3 15 8
      Issues s e i → b.w1 = 0 → i.f3 31 16 = 0 → i.f3 7 2 = 0 → n ≠ 0 → mirrorHere u e entry = true →
      i.f2 63 32 + n ≤ (mirEntry u e entry).count → ownerLost u e entry = false →
      Next (exec (.copyMirror b) s) (fun t =>
        InFlight u t e i none n (.mirror entry (i.f3 63 32) ((List.range n).map (· + i.f2 63 32))) ∧ OnlyIssue s t e))
    ∧ (∀ (s : State) (e : EngineId) (id : Nat) (o : Op) (src dst : Walk) (add : Bool) (done : Nat),
      let bs := walkBytes s e src done
      findOp s e id = some o → o.work = .copy src dst (done + 1) add done → opBusy s e id = false →
      PlainRow s e src done → (add = true → PlainRow s e dst done) → dst.rowInside done = true →
      SettledAll (exec (.operationComplete e id) s) (fun v =>
        (v.eng e).mem.hbm = ((writeWalk s e dst done (if add then addRuns (walkBytes s e dst done) bs else bs)).eng e).mem.hbm
        ∧ opList v e = (opList s e).filter (·.1 != id)
        ∧ (∀ d, (v.eng d).job = (s.eng d).job ∧ (v.eng d).fab = (s.eng d).fab ∧ (d ≠ e → (v.eng d).mem = (s.eng d).mem))
        ∧ v.tier = s.tier))
    ∧ (∀ (s : State) (e : EngineId) (b : EngineInstr),
      let i := rowInstr 0x41 b 0 0
      let u := issued s e i
      let entry := i.f3 15 8
      Issues s e i → b.w1 = 0 → b.w2 = 0 → i.f3 31 16 = 0 → i.f3 7 0 = 0 → mirrorHere u e entry = true →
      compareUnits u e i ≠ 0 →
      Next (exec (.compare b) s) (fun t => Joined s t e i ∧ (t.eng e).iss.nextId = (s.eng e).iss.nextId + 1
        ∧ (t.eng e).mem = (s.eng e).mem ∧ (t.eng e).job = (s.eng e).job ∧ (∀ d, d ≠ e → t.eng d = s.eng d) ∧ t.tier = s.tier)))

/-! ## Exact accumulation -/

/-- ACCOPEN opens a FREE slot with what its descriptor says, in the step it names, with nothing absorbed; no other slot changes,
and while OPEN_SEQ does not restart no byte of the stack does (05 R140, R143, R146). Contributions that wait for a slot are then
tried again; where none waits, that is the whole effect (05 R149).
ACCUM of a group whose ACCCLOSE does not wait yet puts its operation in flight and absorbs its tiles: the slot counts every one of them
unless the slot is damaged; no other slot's count changes (05 R148, R150).
The model's own choices and readings that it rests on: notes/assumptions/51.md. -/
def Obligations.AccumulationInstructions : Prop :=
  (
    ∀ (s : State) (e : EngineId) (b : EngineInstr) (a : AccSlot),
      let i := rowInstr 0x20 b 0 0
      let u := issued s e i
      let g := i.f3 5 0
      let d := i.f1 15 0
      Issues s e i → i.f1 63 16 = 0 → b.w2 = 0 → i.f3 31 6 = 0 → d < reg u e regDescCount → descReadable u e d 1 = true →
      parseGroup u e g (i.f3 63 32) ((descEntry u e d).getD []) = some a → canOpen u e g a = true →
      ∃ t, exec (.accopen b) s = .next (retryOpened t) ∧ (Completed u t e i 1 ∧ Apart s t e ∧ t.group = s.group
        ∧ ((∀ d, ∀ h ∈ (s.eng d).fab.held, h.why ≠ .slotOpen) → retryOpened t = t)
        ∧ (∃ q r, accSlot t e g = { a with openSeq := q, resident := r }) ∧ (accSlot t e g).state = .opened
        ∧ (accSlot t e g).step = i.f3 63 32 ∧ (accSlot t e g).absorbed = 0
        ∧ (∀ h, h ≠ g → accSlot t e h = accSlot s e h)
        ∧ ((s.eng e).job.openSeq < 2 ^ 32 → (t.eng e).mem = (s.eng e).mem)))
  ∧ (
    ∀ (s : State) (e : EngineId) (b : EngineInstr) (mw ew : Walk),
      let i := rowInstr 0x21 b 0 0
      let u := issued s e i
      let g := i.f3 5 0
      let n := i.f2 23 0
      Issues s e i → i.f1 63 32 = 0 → i.f2 63 62 = 0 → i.f2 31 24 = 0 → i.f3 63 6 = 0 → i.f2 61 32 % 64 = 0 → n ≠ 0 →
      i.f1 31 16 < reg u e regDescCount → i.f1 15 0 < reg u e regDescCount → descReadable u e (i.f1 31 16) 1 = true →
      descReadable u e (i.f1 15 0) 1 = true → walker u e (i.f1 15 0) = some mw → walker u e (i.f1 31 16) = some ew →
      (accSlot s e g).state = .opened → i.f2 61 32 + 64 * n ≤ (accSlot s e g).elements → 128 * n ≤ mw.bytes → n ≤ ew.bytes →
      (∀ o ∈ (s.eng e).iss.ops, ∀ x, o.work ≠ .closing g x) →
      Next (exec (.accum b) s) (fun t => Joined s t e i
        ∧ ((accSlot t e g).damaged = true ∨ (accSlot t e g).absorbed = (accSlot s e g).absorbed + n)
        ∧ (∀ h, h ≠ g → (accSlot t e h).absorbed = (accSlot s e h).absorbed)
        ∧ (∀ d, d ≠ e → t.eng d = s.eng d) ∧ t.tier = s.tier))

/-- ACCCLOSE on an OPEN slot on which no other waits: at the expected count, or with none expected, the slot closes complete; beyond it,
it closes INCOMPLETE; below it, the operation waits and the slot stays. Where no record of the slot is in the record buffer, closing
changes no byte of the stack. DISCARD frees a slot and completes. The timeout of a waiting closing closes its slot INCOMPLETE and
leaves the state and the count of every other (05 R145, R151, R153). -/
def Obligations.ClosingGroups : Prop :=
  (∀ (s : State) (e : EngineId) (b : EngineInstr),
    let i := rowInstr 0x22 b 0x100 0
    let u := issued s e i
    let g := i.f3 5 0
    let a := accSlot s e g
    let x := i.f2 31 0
    Issues s e i → b.w1 = 0 → i.f2 63 32 = 0 → i.f3 63 9 = 0 → i.f3 7 6 = 0 → a.state = .opened →
    (∀ o ∈ (s.eng e).iss.ops, ∀ y, o.work ≠ .closing g y) →
    Next (exec (.accclose b) s) (fun t => Joined s t e i ∧ (∀ d, d ≠ e → t.eng d = s.eng d) ∧ t.tier = s.tier
      ∧ (buffered s e a = [] → (t.eng e).mem = (s.eng e).mem)
      ∧ ((x = 0 ∨ a.absorbed = x) → ∃ d, (buffered s e a = [] → d = a.damaged) ∧
          accSlot t e g = { a with state := .closed, incomplete := false, empty := a.absorbed == 0, damaged := d })
      ∧ (x ≠ 0 → x < a.absorbed → (accSlot t e g).state = .closed ∧ (accSlot t e g).incomplete = true)
      ∧ (a.absorbed < x → InFlight u t e i none 1 (.closing g x) ∧ (t.eng e).job = (s.eng e).job ∧ (t.eng e).mem = (s.eng e).mem)))
  ∧ (∀ (s : State) (e : EngineId) (b : EngineInstr),
    let i := rowInstr 0x22 b 0x100 0x100
    let u := issued s e i
    let g := i.f3 5 0
    Issues s e i → b.w1 = 0 → i.f2 63 32 = 0 → i.f3 63 9 = 0 → i.f3 7 6 = 0 →
    Next (exec (.acccloseDiscard b) s) (fun t => Completed u t e i 1 ∧ (accSlot t e g).state = .free
      ∧ (∀ h, h ≠ g → accSlot t e h = accSlot s e h) ∧ (∀ d, d ≠ e → t.eng d = s.eng d)))
  ∧ (∀ (s : State) (e : EngineId) (group : BitVec 6),
    let g := group.toNat
    (∃ o ∈ (s.eng e).iss.ops, ∃ x, o.work = .closing g x) → (accSlot s e g).state = .opened →
    Next (exec (.accCloseTimeout e group) s) (fun t => (accSlot t e g).state = .closed ∧ (accSlot t e g).incomplete = true
      ∧ (∀ h, h ≠ g → (accSlot t e h).state = (accSlot s e h).state ∧ (accSlot t e h).absorbed = (accSlot s e h).absorbed)
      ∧ (buffered s e (accSlot s e g) = [] → (∀ h, h ≠ g → accSlot t e h = accSlot s e h) ∧ (t.eng e).mem = (s.eng e).mem)
      ∧ opList t e = opList s e ∧ (∀ d, d ≠ e → t.eng d = s.eng d) ∧ t.tier = s.tier))

/-! ## The operations of a step -/

/-- What a SEAL of these sealed tiles leaves in the norm register of its step (06 R162). -/
def Sys2Proof.Claims.normAfter (n : NormReg) (ts : List SealedTile) : NormReg :=
  let m := (ts.flatMap (·.squares)).foldl (fun n q => n.add q.1) n
  { m with nonfinite := m.nonfinite || ts.any (·.flagged), alert := m.alert || (ts.foldl (fun n t => n + t.sats) 0) != 0 }

/-- SEAL of an EMPTY group records EMPTY in the seal table, frees the slot and completes; SEAL of a sound group with
contributions, all of whose tiles can be read, puts its operation in flight and adds the squares of its sealed elements to the step's
norm register at once (06 R159-R163). -/
def Obligations.SealSeals : Prop :=
  ∀ (s : State) (e : EngineId) (b : EngineInstr) (o : Obj),
    let i := rowInstr 0x23 b 0 0
    let u := issued s e i
    let g := i.f3 5 0
    let step := i.f3 63 32
    let a := accSlot s e g
    Issues s e i → i.f1 63 16 = 0 → b.w2 = 0 → i.f3 31 6 = 0 → i.f1 15 0 + 2 ≤ reg u e regDescCount →
    descReadable u e (i.f1 15 0) 2 = true → objAt u e (i.f1 15 0) = some o → sealAllowed u e o a step = true →
    a.incomplete = false → a.damaged = false →
    (a.empty = true → Next (exec (.seal b) s) (fun t =>
      Completed u t e i (totalOf i (sealUnits u e i)) ∧ (accSlot t e g).state = .free
      ∧ (t.eng e).job.seals.head? = some { object := o.slot, step := step, outcome := 2 }
      ∧ (∀ d, d ≠ e → t.eng d = s.eng d)))
    ∧ (a.empty = false → (sealFetch u e a).2 = true → Next (exec (.seal b) s) (fun t => Joined s t e i
      ∧ normReg t e step = normAfter (normReg s e step)
          ((List.range (a.elements / 256)).map (sealTile u e a (updReg u e step regNormAnchor)))
      ∧ (∀ d, d ≠ e → t.eng d = s.eng d)))

/-- NORM PUBLISH writes the 32-byte record of the step's norm register and nothing else; NORM DECIDE on a readable global
record of this step and job, with sound tables, records the decision that 06 R167 derives from it, for that step alone (06
R164-R168). -/
def Obligations.NormInstructions : Prop :=
  (∀ (s : State) (e : EngineId) (b : EngineInstr),
    let i := rowInstr 0x28 b 1 0
    let u := issued s e i
    let a := i.f1 35 0
    Issues s e i → normRefused u e i = none → (s.eng e).mem.hbm.wf = true → a + 32 ≤ stackBytes →
    Next (exec (.normPublish b) s) (fun t => Completed u t e i 1 ∧ Apart s t e ∧ t.group = s.group
      ∧ hbm t e a 32 = normBytes (jobIdOf u e).toNat (normReg s e (i.f3 63 32))
      ∧ (∀ x, x < a ∨ a + 32 ≤ x → (t.eng e).mem.hbm.byteAt x = (s.eng e).mem.hbm.byteAt x)
      ∧ (t.eng e).job = (s.eng e).job ∧ (t.eng e).fab = (s.eng e).fab ∧ (t.eng e).reb = (s.eng e).reb))
  ∧ (∀ (s : State) (e : EngineId) (b : EngineInstr),
    let i := rowInstr 0x28 b 1 1
    let u := issued s e i
    let a := i.f1 35 0
    let step := i.f3 63 32
    let record := hbm u e a 32
    let gnorm := (Val.fin false (bits (leNat record) 127 0) (normGrid (updReg u e step regNormAnchor))).sqrt.f32
    let ks := (List.range 32).map (fun c => curveAt (blobIn (updateBlobs u e step) regCurve.1 (regCurve.2 + c)) step)
    let d := decide_ s e step (leNat record) gnorm ks
    Issues s e i → normRefused u e i = none → readable u e a 32 = true → (s.eng e).lou.faults = [] →
    bits (leNat record) 255 224 = step → bits (leNat record) 223 208 = (jobIdOf u e).toNat →
    Next (exec (.normDecide b) s) (fun t =>
      AList.get? (t.eng e).job.decided step = some d.1
      ∧ (∀ x, x ≠ step → AList.get? (t.eng e).job.decided x = AList.get? (s.eng e).job.decided x)
      ∧ arrival t e i.body.counter.toNat =
          { value := (arrival u e i.body.counter.toNat).value + 1
            error := (arrival u e i.body.counter.toNat).error || isError d.2.2.1 }
      ∧ (t.eng e).job.committed = (s.eng e).job.committed ∧ (t.eng e).fab = (s.eng e).fab
      ∧ (∀ x, x ≠ e → t.eng x = s.eng x) ∧ t.tier = s.tier))

/-- SWEEP and APPLYPEND in flight on the lanes of their stream's facet, over the element range they name, nothing swept yet, no
byte changed (06 R176, 08 R239, 12 R350).
The model's own choices and readings that it rests on: notes/assumptions/35.md. -/
def Obligations.LaneOperationsStart : Prop :=
  ∀ (s : State) (e : EngineId) (b : EngineInstr) (o : Obj) (bs rb : List Byte) (pend : Bool),
    let i := rowInstr (if pend then 0x3a else 0x30) b 0 0
    let u := issued s e i
    let step := i.f3 63 32
    let first := if pend then 0 else i.f2 61 32
    let count := if pend then o.elements else i.f2 29 0
    let n := if pend then applyUnits u e i else sweepUnits u e i
    let f := streamFacet u e i.stream % 8
    Numbered s → Issues s e i → i.f1 63 16 = 0 → i.f3 31 0 = 0 → i.f1 15 0 + 2 ≤ reg u e regDescCount →
    (if pend then b.w2 = 0 else i.f2 63 62 = 0 ∧ i.f2 31 30 = 0 ∧ first % 256 = 0 ∧ count % 256 = 0 ∧ count ≠ 0) →
    descReadable u e (i.f1 15 0) 2 = true → objAt u e (i.f1 15 0) = some o → descEntries u e (i.f1 15 0) 2 = some bs →
    rangeRefused u e o step first count pend = false → (pend = true → programBad u e step o = false) → stepReadable u e step = true → stepBytes u e step = some rb →
    o.elements ≠ 0 → (parseStep rb).decision ≠ 2 →
    (pend = true → outcomeOpen u e o step = true ∨ sealOutcome u e o step = 2) →
    (∀ st, laneMode u e o step pend ≠ .done st) →
    Next (exec (if pend then .applypend b else .sweep b) s) (fun t =>
      InFlight u t e i (some (e.val, f)) n
        (.lanes { desc := bs, step := step, first := first, next := first, last := first + count, started := false, ready := [],
                  pend := pend, parcel := none, ringFull := laneMode u e o step pend == .full, repaired := false,
                  nonfinite := false, tail := false, fullNoted := laneMode u e o step pend == .full,
                  warned := !pend && (resEntry u e o.slot).valid && objKnown u e o.slot && nearDeadline u e o step })
      ∧ (facetOf t e f).laneQueue = (facetOf s e f).laneQueue ++ [(s.eng e).iss.nextId]
      ∧ (t.eng e).snap.workRun = true ∧ (t.eng e).mem = (s.eng e).mem ∧ (t.eng e).job = (s.eng e).job
      ∧ (t.eng e).fab = (s.eng e).fab ∧ (∀ d, d ≠ e → t.eng d = s.eng d) ∧ t.tier = s.tier)

/-- COMMIT and QUIESCE in flight, waiting to become ready: the step counter names their step, which is at most C + 1 and, where it
is not committed yet, has its record; nothing else changes (07 R204, R205).
COMMIT in mode ABORT of an uncommitted step that has not been decided APPLY or CLIP here: every seal, norm register and
decision of that step or of a later one up to C + 3 is dropped and the others stay, their slots are FREE, C stays, and ABORTS counts
it; it completes, or waits where a local erasure still covers gradient rows (07 R209).
The model's own choices and readings that it rests on: notes/assumptions/22.md. -/
def Obligations.CommitInstructions : Prop :=
  (
    ∀ (s : State) (e : EngineId) (b : EngineInstr) (quiesce : Bool),
      let mode := if quiesce then 2 else 0
      let i := rowInstr 0x31 b 3 mode
      let u := issued s e i
      let step := i.f3 63 32
      Issues s e i → b.w1 = 0 → b.w2 = 0 → i.f3 31 2 = 0 → s.stepValue.toNat = step → step ≤ (s.eng e).job.committed + 1 →
      ((quiesce = true ∨ (s.eng e).job.committed < step) → (stepBytes u e step).isSome = true) →
      (quiesce = true → (s.eng e).job.committed < step) →
      (quiesce = false → ∀ m, mapOf u e = some m → m.members.any (·.state == 2) = false) →
      Next (exec (if quiesce then .commitQuiesce b else .commit b) s) (fun t =>
        InFlight u t e i none 1 (.barrier step mode false 0)
        ∧ (t.eng e).snap.workRun = true ∧ (t.eng e).mem = (s.eng e).mem ∧ (t.eng e).job = (s.eng e).job
        ∧ (t.eng e).fab = (s.eng e).fab ∧ Apart s t e ∧ t.group = s.group))
  ∧ (
    ∀ (s : State) (e : EngineId) (b : EngineInstr),
      let i := rowInstr 0x31 b 3 1
      let u := issued s e i
      let step := i.f3 63 32
      Issues s e i → b.w1 = 0 → b.w2 = 0 → i.f3 31 2 = 0 → s.stepValue.toNat = step → (s.eng e).job.committed < step →
      decidedToApply u e step = false →
      Next (exec (.commitAbort b) s) (fun t =>
        let gone := fun (x : Nat) => step ≤ x ∧ x ≤ (s.eng e).job.committed + 3
        (t.eng e).job.seals = (s.eng e).job.seals.filter (fun x => !decide (gone x.step))
        ∧ (t.eng e).job.norms = (s.eng e).job.norms.filter (fun x => !decide (gone x.step))
        ∧ (t.eng e).job.decided = (s.eng e).job.decided.filter (fun x => !decide (gone x.1))
        ∧ (∀ g, g < 64 → gone (accSlot s e g).step → (accSlot t e g).state = .free)
        ∧ (∀ g, ¬ gone (accSlot s e g).step → accSlot t e g = accSlot s e g)
        ∧ (t.eng e).job.committed = (s.eng e).job.committed
        ∧ ((t.eng e).job.abortFrom = [] → Completed u t e i 1) ∧ ((t.eng e).job.abortFrom ≠ [] → Joined u t e i)
        ∧ counter t e cntAborts 0 = (counter s e cntAborts 0 + 1) % 2 ^ 64
        ∧ (∀ d, d ≠ e → t.eng d = s.eng d)))

/-- STEPREC completes with 0x00 and hands a later step than the last to the coordinator: it becomes the last, its flags are
recorded, with the non-finite one set just where a value is; a repeated step is counted and nothing else. No data of the engine
changes (12 R349, 14 R383, R384).
The model's own choices and readings that it rests on: notes/assumptions/13.md. -/
def Obligations.SteprecRecords : Prop :=
  ∀ (s : State) (e : EngineId) (b : EngineInstr),
    let i := rowInstr 0x32 b 0 0
    let u := issued s e i
    let step := i.f2 31 0
    let xl : F32 := BitVec.ofNat 32 (i.f3 63 32)
    let xg : F32 := BitVec.ofNat 32 (i.f3 31 0)
    Issues s e i → b.w1 = 0 → i.f2 63 32 = 0 →
    Next (exec (.steprec b) s) (fun t => Completed u t e i 1 ∧ Apart s t e ∧ SameData s t e
      ∧ (step ≤ s.group.health.lastStep → t.group.health = s.group.health
          ∧ gcounter t cntSteprecRepeats = (gcounter s cntSteprecRepeats + 1) % 2 ^ 64)
      ∧ (s.group.health.lastStep < step → t.group.health.lastStep = step
          ∧ ∃ sp, t.group.health.stepFlags.head? = some (step, sp, !xl.isFinite || !xg.isFinite)))

/-! ## Tier moves, apertures, silvering, restore -/

/-- MIGRATE and PREFETCH of an object that is not where they take it: their operation is in flight, and while an aperture copies
it waits its turn with nothing moved (08 R228-R230). -/
def Obligations.MovesStart : Prop :=
  ∀ (s : State) (e : EngineId) (b : EngineInstr) (up : Bool),
    let i := rowInstr (if up then 0x39 else 0x38) b 0 0
    let u := issued s e i
    let o := i.f3 11 0
    Numbered s → Issues s e i → b.w1 = 0 → b.w2 = 0 → i.f3 63 12 = 0 → (resEntry u e o).valid = true → (dirWindow u e).isSome = true →
    (poolWindow u e).isSome = true → resState u e o ≠ (if up then stHot else stCold) → (up = true → bayTaken u e o = false) →
    Next (exec (if up then .prefetch b else .migrate b) s) (fun t => Joined s t e i ∧ (∀ d, d ≠ e → t.eng d = s.eng d)
      ∧ t.tier = s.tier
      ∧ (copyRuns s e = true → InFlight u t e i (some (e.val, streamFacet u e i.stream % 8)) (moveUnits u e i)
          (.move { slot := o, up := up, index := 0, phase := .waitTurn }) ∧ OnlyIssue s t e))

/-- APERTURE is in flight with its generation and step, the time of its dispatch is kept, and a drill that runs is stopped; SILVER
ABANDON drops the staged generation and completes; SILVER RUN is in flight and marks the generation running, nothing before its first
unwritten pane changed, and where its archive slot is not cleared yet and nothing else goes there it asks for zeros over the
manifest pane (10 R282, R287, R289).
RESTORE at an armed engine before any step's work: PREPARE completes, and every STATE and COLD window has an enrolment range over all
its rows, with no on-demand or background install until FINISH; FINISH completes and lifts that; LOAD of a valid archive of the
generation prepared and the committed step, whose geometry, windows and ring fit, imports the ring as *RING_IMPORT* does and is in
flight (10 R299-R301).
The model's own choices and readings that it rests on: notes/assumptions/25.md. -/
def Obligations.SnapshotAndRestoreInstructions : Prop :=
  (
    (∀ (s : State) (e : EngineId) (b : EngineInstr),
      let i := rowInstr 0x48 b 0 0
      Issues s e i → b.w1 = 0 → b.w2 = 0 →
      Next (exec (.aperture b) s) (fun t => Joined s t e i ∧ (t.eng e).lou.drill.running = false ∧ (t.eng e).snap.since = s.time
        ∧ (t.eng e).mem = (s.eng e).mem ∧ (t.eng e).job = (s.eng e).job ∧ (∀ d, d ≠ e → t.eng d = s.eng d) ∧ t.tier = s.tier
        ∧ (t.eng e).iss.ops.getLast? = some (opOf s e i none 1 (.aperture (i.f3 63 32) (i.f3 31 0) false 0 0))))
    ∧ (∀ (s : State) (e : EngineId) (b : EngineInstr) (g : Staged),
      let i := rowInstr 0x49 b 1 0
      Issues s e i → b.w1 = 0 → b.w2 = 0 → i.f3 31 1 = 0 → (s.eng e).snap.snap = some g → g.gen = i.f3 63 32 →
      g.copying = false → g.running = false →
      Numbered s →
      Next (exec (.silverRun b) s) (fun t => Joined s t e i
        ∧ (∃ k, g.written ≤ k ∧ (g.cleared = false → k = g.written)
            ∧ (t.eng e).snap.snap = some { g with running := true, written := k })
        ∧ (g.cleared = false → silverWaits s e (s.eng e).iss.nextId = false → ∃ q ∈ t.group.coord.tierReqs, q.engine = e.val
            ∧ q.addr = Archive.base s e g.gen ∧ q.bytes = zeros 4096 ∧ q.write = true ∧ q.cont = .silver (s.eng e).iss.nextId)
        ∧ (t.eng e).mem.hbm = (s.eng e).mem.hbm ∧ t.tier = s.tier ∧ (∀ d, d ≠ e → t.eng d = s.eng d)))
    ∧ (∀ (s : State) (e : EngineId) (b : EngineInstr) (g : Staged),
      let i := rowInstr 0x49 b 1 1
      let u := issued s e i
      Issues s e i → b.w1 = 0 → b.w2 = 0 → i.f3 31 1 = 0 → (s.eng e).snap.snap = some g → g.gen = i.f3 63 32 → g.copying = false →
      Next (exec (.silverAbandon b) s) (fun t => Completed u t e i (totalOf i (silverUnits u e i))
        ∧ (t.eng e).snap.snap = none ∧ (t.eng e).mem = (s.eng e).mem ∧ Apart s t e ∧ t.group = s.group)))
  ∧ (
    (∀ (s : State) (e : EngineId) (b : EngineInstr),
      let i := rowInstr 0x4a b 3 0
      let u := issued s e i
      Issues s e i → armed s e = true → b.w1 = 0 → b.w2 = 0 → i.f3 31 5 = 0 → i.f3 3 2 = 0 → (s.eng e).snap.workRun = false →
      Next (exec (.restorePrepare b) s) (fun t => Completed u t e i 1 ∧ Apart s t e ∧ t.group = s.group
        ∧ (t.eng e).snap.restoreGen = some (i.f3 63 32) ∧ (t.eng e).reb.enrolled = true ∧ (t.eng e).reb.firstCommit = false
        ∧ (∀ w ∈ myWindows u e, w.cls ≠ 1 → (w.number, ({ window := w.number, first := 0, last := w.length - 1, local_ := false } :
            DegradedRange)) ∈ (t.eng e).reb.ranges)
        ∧ (t.eng e).job = (s.eng e).job))
    ∧ (∀ (s : State) (e : EngineId) (b : EngineInstr),
      let i := rowInstr 0x4a b 3 2
      let u := issued s e i
      Issues s e i → armed s e = true → b.w1 = 0 → b.w2 = 0 → i.f3 31 5 = 0 → i.f3 3 2 = 0 → (s.eng e).snap.workRun = false →
      Next (exec (.restoreFinish b) s) (fun t => Completed u t e i 1 ∧ Apart s t e ∧ t.group = s.group
        ∧ (t.eng e).reb.firstCommit = true ∧ (t.eng e).job = (s.eng e).job))
    ∧ (∀ (s : State) (e : EngineId) (b : EngineInstr),
      let i := rowInstr 0x4a b 3 1
      let u := issued s e i
      let slot := i.f3 4 4
      let m := parseManifest (Archive.read u e slot)
      let ring := (Archive.sideRecord 16 2 (tierRead u (Archive.base u e slot + 4096) (4096 * m.side))).getD []
      Issues s e i → armed s e = true → b.w1 = 0 → b.w2 = 0 → i.f3 31 5 = 0 → i.f3 3 2 = 0 → (s.eng e).snap.workRun = false →
      (s.eng e).snap.restoreGen = some (i.f3 63 32) → reg u e regArchivePanes ≠ 0 → Archive.valid u e slot = true →
      m.gen = i.f3 63 32 → m.step = (s.eng e).job.committed → manifestFits u e m = true →
      (∀ d, restoreChip u e m = some d → d.state ≠ 2) → (ringImport u e ring).2.code = 0 →
      Next (exec (.restoreLoad b) s) (fun t => Joined s t e i ∧ (t.eng e).mem.hbm = ((ringImport u e ring).1.eng e).mem.hbm
        ∧ (t.eng e).job = ((ringImport u e ring).1.eng e).job ∧ (∀ d, d ≠ e → t.eng d = s.eng d) ∧ t.tier = s.tier)))

/-! ## What waits goes on -/

/-- An engine with nothing that can go on by itself is left as it is: an event's own effect is then its whole effect.
The model's own choices and readings that it rests on: notes/assumptions/11.md. -/
def Obligations.SettleLeavesIdleEngine : Prop :=
  ∀ (s : State) (e : EngineId), Idle s e → settle s e = s

/-- A valid request of the flow's next SEQ, of the armed job and the generation in force, that nothing makes wait: its flow moves
past it, it is performed, and the engine goes on. A gap asks once for the missing SEQ, whatever job the chunk is of; a chunk of another
job, or for an engine that is not armed, is refused with NAK 0x11, and where its SEQ is the next of a flow that is kept the flow
moves past it (01 R32, R34, 09 R252). -/
def Obligations.RequestOrder : Prop :=
  (∀ (s : State) (e : EngineId) (c : Chunk), Arrives s e c →
    receive s e c = perform (took s e c) e c
    ∧ (rxFlow (took s e c) e (rxKey c) c.mapGen).expected = c.seq + 1)
  ∧ (∀ (s : State) (e : EngineId) (c : Chunk), Valid s e c → isRequest c.k = true → (s.eng e).fab.mustCommit = none →
    (armed s e = false ∨ c.jobId ≠ jobIdOf s e) →
    let d := (c.mapGen - genOf s e).toNat
    ((armed s e = false ∨ d = 0 ∨ d = 1 ∨ d = 65535) → c.seq = (rxFlow s e (rxKey c) c.mapGen).expected →
      receive s e c = nak (advanceFlow (arrived s e c) e c) e c 0x11)
    ∧ (armed s e = true → d ≠ 0 → d ≠ 1 → d ≠ 65535 → receive s e c = nak (arrived s e c) e c 0x11))
  ∧ (∀ (s : State) (e : EngineId) (c : Chunk), Valid s e c → isRequest c.k = true → (s.eng e).fab.mustCommit = none →
    (armed s e = false ∨ c.mapGen = genOf s e) →
    let v := rxFlow s e (rxKey c) c.mapGen
    0 < (c.seq - v.expected).toNat → (c.seq - v.expected).toNat < 32768 →
    (v.gapSent = true → receive s e c = arrived s e c)
    ∧ (v.gapSent = false → receive s e c =
        sendResend (setRxFlow (arrived s e c) e { v with gapSent := true }) e c v.expected))

/-! ## Chunks of panes -/

/-- DELTA, GPARITY and COLD_PARITY for a pane whose parity this member holds: a chunk that the sender marks as acknowledged, or
for a row not installed or under reconciliation here, is acknowledged and nothing is gathered; any other joins the gather of its pane,
whole once its last segment is here, its bytes are written to its gather slot, and nothing is sent (07 R194, R212, 06 R181).
The model's own choices and readings that it rests on: notes/assumptions/46.md. -/
def Obligations.PaneChunksGather : Prop :=
  ∀ (s : State) (e : EngineId) (c : Chunk) (w : Window) (src : Nat),
    let u := took s e c
    let slot := gatherKey c.vc.toNat src c.column
    let old := ((s.eng e).fab.gathers.find? slot).getD
      { vc := c.vc.toNat, srcSlot := src, column := c.column, window := c.window, row := c.row, step := c.step.toNat,
        segments := [], chunks := [], total := none }
    let bytes := if c.k = kindGparity then slice c.payload 0 256 else deltaBytes c.payload
    let skip := bit (c.x 22 18) (myBit u e c.row) || rowHeld u e w.number c.row
    let out := fun (o : Out) =>
      (skip = true → Settled o e (fun v => Answered u v e c (ackKind c.k) 0 c.step.toNat []
        ∧ (v.eng e).fab.gathers = (s.eng e).fab.gathers ∧ (v.eng e).fab.complete = (s.eng e).fab.complete
        ∧ (v.eng e).mem = (s.eng e).mem ∧ (∀ d, d ≠ e → v.eng d = s.eng d)))
      ∧ (skip = false → Settled o e (fun v =>
        ((old.join c).whole = true → (v.eng e).fab.complete = (s.eng e).fab.complete ++ [old.join c]
          ∧ (∀ g ∈ (v.eng e).fab.gathers, slot g = false))
        ∧ ((old.join c).whole = false → (v.eng e).fab.complete = (s.eng e).fab.complete
          ∧ (v.eng e).fab.gathers.find? slot = some (old.join c))
        ∧ (v.eng e).fab.egress = (s.eng e).fab.egress
        ∧ (v.eng e).mem = ((storeMem u e 1 none (gatherAddr u e c.vc.toNat src c.column + 64 * c.granule) bytes).eng e).mem
        ∧ (v.eng e).job = (s.eng e).job ∧ (∀ d, d ≠ e → v.eng d = s.eng d)))
    Arrives s e c → parityTarget u e c = some (w, src) →
    (c.k = kindDelta → out (exec (.deltaReceive e c) s))
    ∧ (c.k = kindGparity → out (exec (.gparityReceive e c) s))
    ∧ (c.k = kindCold → out (exec (.coldParityReceive e c) s))

/-- FOLD_PANE folds the oldest whole pane that may be folded: a pane of a hot window leaves its gather slot, one acknowledgement
is sent for each of its chunks, and it is counted as folded, or as a duplicate where the row's mask says that its column has
been folded for this step; for a cold window the granules of the parity pane that the product touches are asked of the tier, each as a
request of its own; a pane of a row that is not whole here yet is acknowledged without being folded (07 R195, R198, R212, 08 R231, R232).
The model's own choices and readings that it rests on: notes/assumptions/39.md. -/
def Obligations.FoldPaneFolds : Prop :=
  ∀ (s : State) (e : EngineId) (g : Gather) (w : Window) (f : Nat),
    let live := liveGranules (foldProduct s e f g (gathered s e g))
    present s e = true → (∀ r, (s.eng e).bring.rst = some r → r.absorb = false) →
    (s.eng e).fab.complete.find? (canFold s e) = some g → gatherReadable s e g = true → windowRec s e g.window = some w →
    foldFacetOf s e g.row = some f →
    (rowHeld s e g.window g.row = true → Settled (exec (.foldPane e) s) e (fun v =>
      (v.eng e).fab.complete = (s.eng e).fab.complete.erase g
      ∧ (v.eng e).fab.egress.length = (s.eng e).fab.egress.length + g.chunks.length
      ∧ (v.eng e).mem = (s.eng e).mem ∧ v.tier = s.tier ∧ v.group.coord = s.group.coord ∧ (∀ d, d ≠ e → v.eng d = s.eng d)))
    ∧ (rowHeld s e g.window g.row = false → rowErased s e w g.row = false → cellBad (facetOf s e f) (foldCell s e g) = false →
      w.isHot = true → Settled (exec (.foldPane e) s) e (fun v =>
      (v.eng e).fab.complete = (s.eng e).fab.complete.erase g
      ∧ (v.eng e).fab.egress.length = (s.eng e).fab.egress.length + g.chunks.length
      ∧ (let dup := g.step ≠ 0 ∧ bit (maskFor s e w g.row g.step) g.column = true
         let n := if isGradient g then cntGparityFolds else cntDeltaFolds
         (dup → counter v e cntDeltaDuplicates 0 = (counter s e cntDeltaDuplicates 0 + 1) % 2 ^ 64
            ∧ (v.eng e).mem.hbm = (s.eng e).mem.hbm)
         ∧ (¬ dup → counter v e n 0 = (counter s e n 0 + 1) % 2 ^ 64))
      ∧ (v.eng e).job.slots = (s.eng e).job.slots ∧ (∀ d, d ≠ e → v.eng d = s.eng d)))
    ∧ (rowHeld s e g.window g.row = false → rowErased s e w g.row = false → cellBad (facetOf s e f) (foldCell s e g) = false →
      w.isHot = false → rowPresent s e w g.row = true → live ≠ [] → Settled (exec (.foldPane e) s) e (fun v =>
      (∃ t ∈ v.group.coord.tierReqs, t.id = s.group.coord.tierNext ∧ t.engine = e.val ∧ t.addr = w.paneAt g.row ∧ t.write = false
        ∧ t.cls = 1 ∧ t.out ++ t.todo = live ∧ t.cont = .foldRead g.vc g.srcSlot g.column)
      ∧ (v.eng e).fab = (s.eng e).fab ∧ (v.eng e).mem.hbm = (s.eng e).mem.hbm ∧ v.tier = s.tier ∧ (∀ d, d ≠ e → v.eng d = s.eng d)))

/-- ACCUM_WRITE to an OPEN slot of its step and generation is absorbed: the slot counts its G16S tiles, one for 128 bytes, and the
chunk is acknowledged (05 R145, R147, R148). -/
def Obligations.AccumWriteAbsorbed : Prop :=
  ∀ (s : State) (e : EngineId) (c : Chunk),
    let u := took s e c
    Arrives s e c → c.k = kindAccum → accVerdict u e c = .absorb →
    Settled (exec (.accumWriteReceive e c) s) e (fun v =>
      (accSlot v e c.group).absorbed = (accSlot s e c.group).absorbed + c.length.toNat / 128
      ∧ (∀ h, h ≠ c.group → (accSlot v e h).absorbed = (accSlot s e h).absorbed)
      ∧ Answered u v e c kindGparityAck 0 c.step.toNat []
      ∧ (∀ d, d ≠ e → v.eng d = s.eng d))

/-! ## Chunks of rebuilds -/

/-- DREAD_REQ of a member of the set about a hot row that is whole here: CHAIN freezes the row and acknowledges with this member's tag;
GATHER freezes it and returns the segment named; RELEASE ends the freeze and is acknowledged (09 R263-R266).
The header bits [28:0] of those answers are the model's choice: notes/assumptions/31.md. -/
def Obligations.DreadRequests : Prop :=
  ∀ (s : State) (e : EngineId) (c : Chunk) (w : Window) (src : Nat),
    let u := took s e c
    let f : Freeze := { window := c.window, row := c.row, slot := src, column := c.column }
    let st := if rowPresent u e w c.row then 0 else 1
    Arrives s e c → c.k = kindDreadReq → dreadTarget u e c = some (w, src) →
    let whole := rowHeld u e w.number c.row = false ∧ paneLost u e w.number c.row = false ∧ w.isHot = true
    (c.x 28 27 = 0 → whole → Settled (exec (.dreadReqChain e c) s) e (fun v =>
      f ∈ (v.eng e).reb.freezes
      ∧ (∃ rest, (v.eng e).fab.egress = (s.eng e).fab.egress ++
          response u e c kindRebuildAck st (sourceTag u e w c.row) [] :: rest)
      ∧ (v.eng e).mem.hbm = (s.eng e).mem.hbm ∧ (∀ d, d ≠ e → v.eng d = s.eng d)))
    ∧ (c.x 28 27 = 1 → whole → Settled (exec (.dreadReqGather e c) s) e (fun v =>
      f ∈ (v.eng e).reb.freezes
      ∧ AnsweredExt u v e c kindDreadResp st (sourceTag u e w c.row) (sourceExt u e w c.row (c.granule / 4) (16 + c.granule / 4))
          (slice (rowBytes u e w c.row) (64 * c.granule) 256)
      ∧ (v.eng e).mem.hbm = (s.eng e).mem.hbm ∧ (∀ d, d ≠ e → v.eng d = s.eng d)))
    ∧ (c.x 28 27 = 2 → Settled (exec (.dreadReqRelease e c) s) e (fun v =>
      f ∉ (v.eng e).reb.freezes ∧ (∀ h ∈ (s.eng e).reb.freezes, h ≠ f → h ∈ (v.eng e).reb.freezes)
      ∧ AnsweredExt u v e c kindRebuildAck 0 c.step.toNat (sourceExt u e w c.row c.column 64) []
      ∧ (v.eng e).mem = (s.eng e).mem ∧ (∀ d, d ≠ e → v.eng d = s.eng d)))

/-- REBUILD_SUM: the last sum of a chain joins the sum of the install that waits for it at its origin, and is acknowledged; a segment
of a pane handed to a spare, or of a repair, that is not the sixteenth is acknowledged and kept with those before it, and no byte of
the stack changes; the sixteenth of a repair of a hot pane is acknowledged, that of a cold one asks the tier for the pane and then
its ledger entry, and is acknowledged when that has ended (09 R264, R269, R270, 11 R316). -/
def Obligations.RebuildSums : Prop :=
  ∀ (s : State) (e : EngineId) (c : Chunk) (w : Window) (src : Nat),
    let u := took s e c
    let seg := slice c.payload 0 256
    let ack := response u e c kindRebuildAck 0 c.step.toNat []
    let segs := AList.set ((((s.eng e).reb.parts.find? (handKey 0x20 c)).map (·.segments)).getD []) (c.granule / 4) seg
    Arrives s e c → c.k = kindSum → dreadTarget u e c = some (w, src) →
    (c.x 7 7 = 0 → c.x 12 8 = 0x1f → Settled (exec (.rebuildSumReceive e c) s) e (fun v =>
      (v.eng e).fab.egress = (s.eng e).fab.egress ++ [ack]
      ∧ (v.eng e).reb.installs = (s.eng e).reb.installs.map (fun n =>
          if !n.gather && n.phase == .reading && n.window == c.window && n.row == c.row && n.column == c.column then
            { n with sum := AList.set n.sum (c.granule / 4) seg } else n)
      ∧ (v.eng e).mem = (s.eng e).mem ∧ (∀ d, d ≠ e → v.eng d = s.eng d)))
    ∧ (c.x 7 7 = 1 → handingFor u e c = none → c.column = columnHere u e c.row → notInstalled u e w.number c.row = true →
      (AList.set ((((s.eng e).reb.parts.find? (handKey 0x23 c)).map (·.segments)).getD []) (c.granule / 4) seg).length ≠ 16 →
      Settled (exec (.rebuildSumHandoff e c) s) e (fun v =>
        (v.eng e).fab.egress = (s.eng e).fab.egress ++ [ack]
        ∧ (∃ p ∈ (v.eng e).reb.parts, handKey 0x23 c p = true ∧ AList.get? p.segments (c.granule / 4) = some seg)
        ∧ (v.eng e).mem = (s.eng e).mem ∧ (∀ d, d ≠ e → v.eng d = s.eng d)))
    ∧ (c.x 7 7 = 1 → handingFor u e c = none → c.column = columnHere u e c.row → notInstalled u e w.number c.row = false →
      (c.x 6 6 = 0 ∨ holdsParity u e c.row = false) → (w.isHot = true ∨ segs.length ≠ 16) →
      Settled (exec (.rebuildSumRepair e c) s) e (fun v => (v.eng e).fab.egress = (s.eng e).fab.egress ++ [ack]
        ∧ (segs.length ≠ 16 → (v.eng e).mem = (s.eng e).mem
             ∧ (∃ p ∈ (v.eng e).reb.parts, handKey 0x20 c p = true ∧ p.segments = segs))
        ∧ (segs.length = 16 → ∀ p ∈ (v.eng e).reb.parts, handKey 0x20 c p = false)
        ∧ (∀ d, d ≠ e → v.eng d = s.eng d)))
    ∧ (c.x 7 7 = 1 → handingFor u e c = none → c.column = columnHere u e c.row → notInstalled u e w.number c.row = false →
      (c.x 6 6 = 0 ∨ holdsParity u e c.row = false) → w.isHot = false → segs.length = 16 →
      Settled (exec (.rebuildSumRepair e c) s) e (fun v => (v.eng e).fab.egress = (s.eng e).fab.egress
        ∧ (∃ t ∈ v.group.coord.tierReqs, t.engine = e.val ∧ t.write = true ∧ t.addr = w.ledgerAt c.row
            ∧ t.cont = .repaired w.number c.row (some c))
        ∧ (v.eng e).mem.hbm = (s.eng e).mem.hbm ∧ v.tier = s.tier ∧ (∀ d, d ≠ e → v.eng d = s.eng d)))

/-! ## Chunks of mirrors and restores -/

/-- MIRROR_REQ: the owner answers a segment, a digest or a digest-tree node of panes that are readable and hold no later step,
and of which none is lost, with their STEP_TAG; ARBITRATE is acknowledged at once and the pane is arbitrated; the mirror's holder answers FROM_MIRROR of a
verified pane at the step asked for, where its buffer can be read; no byte of the stack changes (06 R185, R186, 09 R267, 11 R312-R314). -/
def Obligations.MirrorRequests : Prop :=
  ∀ (s : State) (e : EngineId) (c : Chunk) (w : Window),
    let u := took s e c
    let step := c.step.toNat
    let tag := servedTag u e w c.row step
    let rows := mirRows u e c
    Arrives s e c → c.k = kindMirrorReq →
    (c.x 27 27 = 0 → c.x 25 25 = 0 → mirTarget u e c = some w → rows.any (notReadable u e w) = false →
      rows.any (paneLost u e w.number) = false → rows.any (fun r => step < servedTag u e w r step) = false →
      (c.x 26 26 = 0 → c.x 28 28 = 0 → Settled (exec (.mirrorReqSegment e c) s) e (fun v =>
        Answered u v e c kindMirrorResp 0 tag (slice (rowBytes u e w c.row) (64 * c.granule) 256)
        ∧ (v.eng e).mem.hbm = (s.eng e).mem.hbm ∧ (v.eng e).reb = (s.eng e).reb ∧ (∀ d, d ≠ e → v.eng d = s.eng d)))
      ∧ (c.x 26 26 = 0 → c.x 28 28 = 1 → Settled (exec (.mirrorReqDigest e c) s) e (fun v =>
        Answered u v e c kindMirrorResp 0 tag (paneDigest (rowBytes u e w c.row))
        ∧ (v.eng e).mem.hbm = (s.eng e).mem.hbm ∧ (v.eng e).reb = (s.eng e).reb ∧ (∀ d, d ≠ e → v.eng d = s.eng d)))
      ∧ (c.x 26 26 = 1 → Settled (exec (.mirrorReqNode e c) s) e (fun v =>
        Answered u v e c kindMirrorResp 0 tag (treeNode 0 (c.x 18 0) (rows.map (fun r => paneDigest (rowBytes u e w r))))
        ∧ (v.eng e).mem.hbm = (s.eng e).mem.hbm ∧ (v.eng e).reb = (s.eng e).reb ∧ (∀ d, d ≠ e → v.eng d = s.eng d))))
    ∧ (c.x 27 27 = 0 → c.x 25 25 = 1 → mirTarget u e c = some w → Settled (exec (.mirrorReqArbitrate e c) s) e (fun v =>
        (∃ rest, (v.eng e).fab.egress = (s.eng e).fab.egress ++ response u e c kindSAck 0 step [] :: rest)
        ∧ (arbitrates v e w.number c.row = true) ∧ (v.eng e).mem = (s.eng e).mem ∧ (∀ d, d ≠ e → v.eng d = s.eng d)))
    ∧ (∀ i q, c.x 27 27 = 1 → c.x 25 25 = 0 → mirrorOf u e c.srcChip.toNat c.window c.row = some (i, q) →
      mirTag u e (mirEntry u e i) q = (step, true) → readable u e ((mirEntry u e i).buf + 4096 * q) 4096 = true →
      Settled (exec (.mirrorReqFromMirror e c) s) e (fun v =>
        Answered u v e c kindMirrorResp 0 step (if c.x 28 28 = 1 then paneDigest (mirPane u e (mirEntry u e i) q)
          else slice (mirPane u e (mirEntry u e i) q) (64 * c.granule) 256)
        ∧ (v.eng e).mem.hbm = (s.eng e).mem.hbm ∧ (v.eng e).reb.installs = (s.eng e).reb.installs ∧ (∀ d, d ≠ e → v.eng d = s.eng d)))

/-- RESTORE_XFER of the generation prepared, for a pane held here: the chunk of a pane already loaded is acknowledged and the pane
stays; a chunk of a hot pane is acknowledged, and until the sixteenth it is noted with those before it; a chunk of a cold pane asks the
tier for its 256 bytes and is not answered yet (10 R299, R300).
The model's own choices and readings that it rests on: notes/assumptions/39.md. -/
def Obligations.RestoreXfers : Prop :=
  ∀ (s : State) (e : EngineId) (c : Chunk) (w : Window) (gen : Nat),
    let u := took s e c
    let key := xferPart c.window c.row
    let segs := AList.set ((((s.eng e).reb.parts.find? key).map (·.segments)).getD []) (c.granule / 4) []
    Arrives s e c → c.k = kindRestore → xferTarget u e c = some w → (s.eng e).snap.restoreGen = some gen →
    gen % 65536 = c.x 28 13 → Settled (exec (.restoreXferReceive e c) s) e (fun v =>
      (rebuildBit u e w.number c.row = true → Answered u v e c kindSAck 0 c.step.toNat []
        ∧ (v.eng e).mem = (s.eng e).mem ∧ (v.eng e).reb = (s.eng e).reb)
      ∧ (rebuildBit u e w.number c.row = false → w.isHot = true → Answered u v e c kindSAck 0 c.step.toNat []
        ∧ (segs.length ≠ 16 → ∃ p ∈ (v.eng e).reb.parts, key p = true ∧ p.segments = segs)
        ∧ (segs.length = 16 → ∀ p ∈ (v.eng e).reb.parts, key p = false))
      ∧ (rebuildBit u e w.number c.row = false → w.isHot = false → (v.eng e).fab.egress = (s.eng e).fab.egress
        ∧ (v.eng e).reb = (s.eng e).reb ∧ (v.eng e).mem = (s.eng e).mem
        ∧ (∃ t ∈ v.group.coord.tierReqs, t.id = s.group.coord.tierNext ∧ t.engine = e.val ∧ t.write = true ∧ t.cls = 4
            ∧ t.addr = w.paneAt c.row + 64 * c.granule ∧ t.bytes = slice c.payload 0 256
            ∧ t.cont = .loaded c.window c.row c.step.toNat (c.x 0 0 == 1) none (some c)))
      ∧ v.tier = s.tier ∧ (∀ d, d ≠ e → v.eng d = s.eng d))

/-! ## Responses -/

/-- DELTA_ACK, GPARITY_ACK and S_ACK to a chunk of a pane on its way: the chip is awaited no longer; while one that the chunk was first
sent to is awaited, the pane stays on its way; when the chip was the last, the request leaves the replay buffer, and when no chunk of
the pane is left there, the pane is finished with (01 R36, 07 R191, 09 R253).
The model's own choices and readings that it rests on: notes/assumptions/17.md, notes/assumptions/21.md. -/
def Obligations.PaneAcknowledged : Prop :=
  ∀ (s : State) (e : EngineId) (c : Chunk) (r : Request) (id : Nat),
    let chip := c.srcChip.toNat
    let left := if r.column.isNone then [] else r.awaited.filter (fun h => h.2 != chip)
    let out := fun (o : Out) => Settled o e (fun v =>
      (left ≠ [] → (v.eng e).fab.requests.length = (s.eng e).fab.requests.length
        ∧ (∃ q ∈ (v.eng e).fab.requests, q.tag = r.tag ∧ q.awaited = left)
        ∧ ((∃ h ∈ left, h ∈ r.dest) → (v.eng e).fab.jobs = (s.eng e).fab.jobs))
      ∧ (left = [] → (v.eng e).fab.requests.length < (s.eng e).fab.requests.length
        ∧ ((∀ q ∈ (s.eng e).fab.requests, q.owner = .job id → q.tag = r.tag ∧ q.hold ≠ .unsent) →
            (v.eng e).fab.jobs.all (fun j => j.id != id) = true))
      ∧ (∀ d, d ≠ e → v.eng d = s.eng d))
    Responds s e c r → r.owner = .job id →
    (c.k = kindDeltaAck → out (exec (.deltaAckReceive e c) s))
    ∧ (c.k = kindGparityAck → out (exec (.gparityAckReceive e c) s))
    ∧ (c.k = kindSAck → out (exec (.sAckReceive e c) s))

/-- REBUILD_ACK to a chain's DREAD_REQ marks its source frozen with its tag; DREAD_RESP adds its segment to its source;
MIRROR_RESP joins the fetch that asked (09 R264-R266, 06 R186).
What the header bits [28:0] of a DREAD_RESP say of the holder is the model's choice: notes/assumptions/31.md. -/
def Obligations.AnswersJoin : Prop :=
  ∀ (s : State) (e : EngineId) (c : Chunk) (r : Request) (id : Nat),
    let here := fun (x : Source) => ((memberAt s e x.slot).map (·.chip)) == some c.srcChip.toNat
    let tag := c.step.toNat
    Responds s e c r →
    (c.k = kindRebuildAck → r.owner = .install id → r.chunk.k = kindDreadReq → r.chunk.x 28 27 = 0 →
      Settled (exec (.rebuildAckReceive e c) s) e (fun v => (v.eng e).reb.installs = (s.eng e).reb.installs.map (fun n =>
        if n.id = id ∧ n.phase = .reading then { n with sources := n.sources.map (fun x =>
          if here x then { x with frozen := true, absent := c.status.toNat == 1, tag := tag } else x) } else n)
      ∧ (v.eng e).mem = (s.eng e).mem ∧ (∀ d, d ≠ e → v.eng d = s.eng d)))
    ∧ (c.k = kindDreadResp → r.owner = .install id → r.chunk.k = kindDreadReq → r.chunk.x 28 27 = 1 →
      Settled (exec (.dreadRespReceive e c) s) e (fun v => (v.eng e).reb.installs = (s.eng e).reb.installs.map (fun n =>
        if n.id = id ∧ n.phase = .reading then { n with sources := n.sources.map (fun x =>
          if here x then { x with frozen := true, absent := c.status.toNat == 1, tag := tag, mask := c.x 23 0,
                                  named := x.named ||| (c.x 24 24 * 2 ^ (r.chunk.granule / 4))
                                    ||| (c.x 25 25 * 2 ^ (16 + r.chunk.granule / 4)),
                                  data := AList.set x.data (r.chunk.granule / 4) (slice c.payload 0 256) } else x) } else n)
      ∧ (v.eng e).mem = (s.eng e).mem ∧ (∀ d, d ≠ e → v.eng d = s.eng d)))
    ∧ (c.k = kindMirrorResp → r.owner = .fetch id →
      Settled (exec (.mirrorRespReceive e c) s) e (fun v => (v.eng e).reb.fetches = (s.eng e).reb.fetches.map (fun f =>
        if f.id = id then f.join r.chunk c else f)
      ∧ (v.eng e).mem = (s.eng e).mem ∧ (∀ d, d ≠ e → v.eng d = s.eng d)))

/-- NAK by its status: 0x12 leaves the request unanswered, waiting for the newer generation or its retry; 0x70 leaves it
unanswered, marked to go out again at the next expiry, and counts against its destination; 0x11 or 0x60 to a pane's chunk ends the wait for that chip in every chunk of the
pane; to an operation's request, any other status is one more cause of the operation's own (01 R36, 07 R433, 09 R246, R253,
12 R354).
RESEND sends again every unanswered chunk of its flow from the SEQ it names, each counted, and forgets none (01 R33, R36).
The model's own choices and readings that it rests on: notes/assumptions/19.md, notes/assumptions/21.md, notes/assumptions/53.md. -/
def Obligations.RefusalsAndResends : Prop :=
  (
    ∀ (s : State) (e : EngineId) (c : Chunk) (r : Request),
      let chip := c.srcChip.toNat
      let st := c.status.toNat
      let d := (c.mapGen - genOf s e).toNat
      Responds s e c r → c.k = kindNak →
      (st = 0x12 → d ≠ 0 → Settled (exec (.nakStaleGen e c) s) e (fun v =>
        (v.eng e).fab.requests.length = (s.eng e).fab.requests.length
        ∧ (∃ q ∈ (v.eng e).fab.requests, q.tag = r.tag ∧ q.hold = (if d < 32768 then .newGen c.mapGen else .retry))
        ∧ (v.eng e).mem = (s.eng e).mem ∧ (∀ x, x ≠ e → v.eng x = s.eng x)))
      ∧ (st = 0x70 →
        let o := destOf s e chip r.chunk.dstEngine.toNat r.chunk.vc.toNat
        Settled (exec (.nakAbsent e c) s) e (fun v =>
          (v.eng e).fab.requests = (s.eng e).fab.requests.map (fun q => if q.tag = r.tag ∧ q.hold ≠ .unsent then
              { q with stub := if q.stub.contains chip then q.stub else chip :: q.stub } else q)
          ∧ (o.stopped = false → o.timeouts < 7 →
              destOf v e chip r.chunk.dstEngine.toNat r.chunk.vc.toNat = { o with timeouts := o.timeouts + 1 })
          ∧ (o.stopped = false → 7 ≤ o.timeouts →
              destOf v e chip r.chunk.dstEngine.toNat r.chunk.vc.toNat = { o with timeouts := 8, stopped := true, reported := true })
          ∧ (v.eng e).mem = (s.eng e).mem ∧ (∀ x, x ≠ e → v.eng x = s.eng x)))
      ∧ (∀ id, (st = 0x11 ∨ st = 0x60) → r.owner = .job id → byColumn r.chunk.k = true →
        Settled (exec (.nakRefused e c) s) e (fun v =>
          (∀ q ∈ (v.eng e).fab.requests, q.owner = .job id → ∀ h ∈ q.awaited, h.2 ≠ chip)
          ∧ (∀ x, x ≠ e → v.eng x = s.eng x)))
      ∧ (∀ id, st ≠ 0x12 → st ≠ 0x70 → r.owner = .op id → r.chunk.k ≠ kindRestore →
        Settled (exec (.nakReceive e c) s) e (fun v => (v.eng e).iss.ops = (s.eng e).iss.ops.map (fun o =>
            if o.id = id then { o with causes := o.causes ++ [st] } else o)
          ∧ (v.eng e).mem = (s.eng e).mem ∧ (∀ x, x ≠ e → v.eng x = s.eng x))))
  ∧ (
    ∀ (s : State) (e : EngineId) (c : Chunk),
      let rs := (awaiting s e c.srcChip.toNat c.srcEngine.toNat c.vc.toNat).filter (fun r =>
        r.chunk.mapGen == c.mapGen && (r.chunk.seq - c.seq).toNat < 32768
        && (if namesColumn c then byColumn r.chunk.k && r.chunk.column == c.column else !byColumn r.chunk.k))
      Valid s e c → c.k = kindResend → Settled (exec (.resendReceive e c) s) e (fun v =>
        counter v e cntResends 0 = (counter s e cntResends 0 + rs.length) % 2 ^ 64
        ∧ (v.eng e).fab.requests.length = (s.eng e).fab.requests.length
        ∧ (isStopped s e c.srcChip.toNat c.srcEngine.toNat c.vc.toNat = false →
            (v.eng e).fab.egress = (s.eng e).fab.egress ++ rs.map (fun r => { dest := [c.srcChip.toNat], chunk := r.chunk }))
        ∧ (v.eng e).mem = (s.eng e).mem ∧ (∀ d, d ≠ e → v.eng d = s.eng d)))

/-- A valid request for an absent position is answered by the stub with NAK 0x70 in its own name; a valid response is
discarded and counted; nothing else of the state changes (01 R56).
The model's own choices and readings that it rests on: notes/assumptions/47.md. -/
def Obligations.StubAnswers : Prop :=
  ∀ (s : State) (e : EngineId) (c : Chunk),
    present s e = false → crcGood c = true → badChunk c = false →
    (isRequest c.k = true → Next (exec (.stubFabricRequest e c) s) (fun t =>
      (∃ r : Chunk, (t.eng e).fab.out = (s.eng e).fab.out ++ [{ dest := [c.srcChip.toNat], chunk := r }]
        ∧ r.kind.toNat = kindNak ∧ r.status = 0x70 ∧ r.dstChip = c.srcChip ∧ r.dstEngine = c.srcEngine
        ∧ r.srcChip = BitVec.ofNat 13 s.group.lc.chipId ∧ r.srcEngine = BitVec.ofNat 4 e.val ∧ r.seq = c.seq ∧ r.tag = c.tag ∧ r.mapGen = c.mapGen ∧ r.payload = [] ∧ crcGood r = true)
      ∧ (t.eng e).mem = (s.eng e).mem ∧ Apart s t e ∧ t.group = s.group))
    ∧ (isRequest c.k = false → Next (exec (.stubFabricRequest e c) s) (fun t => t.engines = s.engines
      ∧ gcounter t cntStubDiscards = (gcounter s cntStubDiscards + 1) % 2 ^ 64 ∧ t.tier = s.tier))

/-! ## Streams and completion -/

/-- An arriving instruction joins the issue queue of its stream while that holds fewer than 16, and is held outside a full one; at
an absent position it adds 1 to the counter's image with its ERROR flag and runs nothing; a target of 0xC to 0xE does so at every
present engine. STEP_COUNTER_VALID sets the step counter's value and valid signal; while no COMMIT waits at the head of a stream,
that is all (01 R37, R38, R51, R58, 12 R341).
The model's own choices and readings that it rests on: notes/assumptions/13.md, notes/assumptions/44.md. -/
def Obligations.ArrivingInstructions : Prop :=
  (∀ (s : State) (w0 w1 w2 w3 : BitVec 64),
    let i := parseInstr w0 w1 w2 w3
    let c := i.body.counter.toNat
    let x := exec (.instructionArrival w0 w1 w2 w3) s
    (∀ e : EngineId, i.body.target.toNat = e.val → present s e = true →
      (∀ h, (streamQueue s e i.stream ++ [i]).head? = some h → noRow h = false) →
      Next x (fun t => (∀ st, st ≠ i.stream → streamQueue t e st = streamQueue s e st) ∧ opList t e = opList s e
        ∧ (t.eng e).iss.arrivals = (s.eng e).iss.arrivals ∧ OnlyIssue s t e
        ∧ ((streamQueue s e i.stream).length < 16 → streamQueue t e i.stream = streamQueue s e i.stream ++ [i])
        ∧ (16 ≤ (streamQueue s e i.stream).length → streamQueue t e i.stream = streamQueue s e i.stream)))
    ∧ (∀ e : EngineId, i.body.target.toNat = e.val → present s e = false →
      Next x (fun t => arrival t e c = { value := (arrival s e c).value + 1, error := true }
        ∧ (∀ k, k ≠ c → arrival t e k = arrival s e k) ∧ opList t e = opList s e ∧ streamQueue t e i.stream = streamQueue s e i.stream
        ∧ Apart s t e ∧ SameData s t e))
    ∧ (12 ≤ i.body.target.toNat → i.body.target.toNat < 15 →
      Next x (fun t => (∀ e : EngineId, SameData s t e ∧ opList t e = opList s e
          ∧ arrival t e c = if present s e then { value := (arrival s e c).value + 1, error := true } else arrival s e c)
        ∧ t.tier = s.tier)))
  ∧ (∀ (s : State) (value : BitVec 32),
    (∀ e st i rest, present s e = true → streamQueue s e st = i :: rest → i.op ≠ 0x31 ∧ noRow i = false) →
    exec (.stepCounterValid value) s = .next { s with stepValue := value, stepValid := true })

/-- OPERATION_COMPLETE: an operation whose own work has ended, a FENCE that waits for none in flight, or a FILL that its facet
streams, with nothing outstanding, leaves the list of those in flight; its counter receives what is left of its total, its ERROR
flag where the worst of its statuses is an error, and its completion is counted (01 R42, 12 R337, R340, R354).
The status of an operation that met several causes (12 R354): the first of these classes that applies decides, 0x50 before 0x10,
0x11 and 0x12, before 0x40, before 0x30 and 0x31, before 0x60, before 0x20 and 0x21, before 0x01; it is one of the causes, and
among causes of its class the one met first. Without a cause it is 0x00. -/
def Obligations.OperationsComplete : Prop :=
  (
    ∀ (s : State) (e : EngineId) (op : Nat) (o : Op),
      let c := o.ins.body.counter.toNat
      let st := worstStatus o.causes
      findOp s e op = some o → opBusy s e op = false →
      (o.work = .ended ∨ (∃ ids, o.work = .fence ids ∧ ∀ id ∈ ids, findOp s e id = none)
        ∨ (∃ n, o.work = .fill n ∧ isActive s e o = true)) →
      SettledAll (exec (.operationComplete e op) s) (fun v =>
        opList v e = (opList s e).filter (·.1 != op)
        ∧ arrival v e c = { value := (arrival s e c).value + BitVec.ofNat 32 (o.total - o.units)
                            error := (arrival s e c).error || isError st }
        ∧ (∀ k, k ≠ c → arrival v e k = arrival s e k)
        ∧ counter v e cntOpsCompleted 0 = (counter s e cntOpsCompleted 0 + 1) % 2 ^ 64
        ∧ (isError st = true → counter v e cntOpsError 0 = (counter s e cntOpsError 0 + 1) % 2 ^ 64)
        ∧ (∀ d, SameData s v d) ∧ v.tier = s.tier))
  ∧ (
    let classes := [[0x50], [0x10, 0x11, 0x12], [0x40], [0x30, 0x31], [0x60], [0x20, 0x21], [0x01]]
    let rank := fun (c : Nat) => classes.findIdx (fun l => l.contains c)
    ∀ cs : List Nat, (∀ c ∈ cs, rank c < 7) →
      (cs = [] → worstStatus cs = 0x00)
      ∧ (cs ≠ [] → (∀ c ∈ cs, rank (worstStatus cs) ≤ rank c)
        ∧ cs.find? (fun c => rank c == rank (worstStatus cs)) = some (worstStatus cs)))

/-! ## Rows of a pass, panes of the lanes -/

/-- PANE_ROW_RETIRE of PRISM or ENCODE on the facet that streams it: where no cell is damaged, the inputs and outputs lie outside
the coded windows and inside the stack, the queues have panes and room, and a lent facet has budget for what is left of the
pane-row's 256 segments, every MEM output of the row
receives the sum over the input columns of coefficient times input pane, and the pass goes on or ends; under chunk signalling
its counter moves by 1. STAGE_WAIT_TIMEOUT ends a pass that still lacks a STAGE input with 0x10 and frees its facet; no data
changes (04 R106, R110, R116, R117, R118, R128).
The model's own choices and readings that it rests on: notes/assumptions/10.md, notes/assumptions/11.md. -/
def Obligations.PassRowRetires : Prop :=
  (∀ (s : State) (b e : EngineId) (f : Fin 8) (o : Op) (p : PassWork),
    let r : OpRef := { home := e.val, op := o.id }
    let u := fillFor s b f.val r
    let c := o.ins.body.counter.toNat
    let ins := (List.range p.ins.length).map (inputBytes s e p (fun _ => []) p.done)
    let sum := fun (row : Nat) => rowOutput ((List.range p.ins.length).map (fun i => cellActive (facetOf u b f.val) (24 * row + i))) ins
    (facetOf s b f.val).active = some r → findOp s e o.id = some o → o.facet = some (b.val, f.val) → o.work = .pass p →
    (o.ins.op = 0x10 ∨ o.ins.op = 0x11) →
    p.done < p.panes → (usedCells p).any (cellBad (facetOf u b f.val)) = false → stageReady s e p = true →
    stageRoom s e p = true →
    (b = e ∨ 256 ≤ p.lent + lentSegments s e b (16 * (p.ins.filter isBound).length) (16 * (p.outs.filter isDriven).length)) →
    (∀ w ∈ readWalks p, walkRowTouches s e w p.done = false
      ∧ ∀ a ∈ w.rowElems p.done, elemInside w a = true ∧ readable s e a.toNat (2 ^ w.elog) = true) →
    (∀ w ∈ writeWalks p, walkRowTouches s e w p.done = false ∧ w.rowInside p.done = true) →
    (∀ x ∈ p.outs, x = .discard ∨ ∃ w, x = .mem w) →
    SettledAll (exec (.paneRowRetire b f) s) (fun v =>
      (v.eng e).mem.hbm = ((p.outs.zipIdx.foldl (fun x q => match q.1 with
          | .mem w => writeWalk x e w p.done (sum q.2)
          | _ => x) s).eng e).mem.hbm
      ∧ (∃ q, findOp v e o.id = some q ∧ q.causes = o.causes
          ∧ q.work = if p.done + 1 < p.panes then .pass { p with done := p.done + 1, lent := 0 } else .ended)
      ∧ (p.panes ≤ p.done + 1 → r ∉ (facetOf v b f.val).queue)
      ∧ (arrival v e c = arrival s e c
          ∨ o.ins.body.chunkSignal = true ∧ arrival v e c = { value := (arrival s e c).value + 1, error := (arrival s e c).error })
      ∧ (∀ d, (v.eng d).job = (s.eng d).job ∧ (v.eng d).fab = (s.eng d).fab ∧ (d ≠ e → (v.eng d).mem = (s.eng d).mem))
      ∧ v.tier = s.tier))
  ∧ (∀ (s : State) (b e : EngineId) (f : Fin 8) (o : Op) (p : PassWork),
    let r : OpRef := { home := e.val, op := o.id }
    (facetOf s b f.val).active = some r → findOp s e o.id = some o → o.work = .pass p → o.facet = some (b.val, f.val) →
    stageReady s e p = false →
    Next (exec (.stageWaitTimeout b f) s) (fun t => r ∉ (facetOf t b f.val).queue
      ∧ (∃ q, findOp t e o.id = some q ∧ q.work = .ended ∧ q.causes = o.causes ++ [0x10])
      ∧ NoData s t ∧ (∀ d, (t.eng d).iss.arrivals = (s.eng d).iss.arrivals)))

/-- The fill of a pass loads every cell of its facet's 24 by 8 with the coefficient of its output row and input column, with the
right parity, and the coefficients that were active go to shadow (04 R107, R109, R111). -/
def Obligations.FillLoadsCoefficients : Prop :=
  ∀ (s : State) (b e : EngineId) (f : Fin 8) (o : Op) (row col : Nat),
    let r : OpRef := { home := e.val, op := o.id }
    let x := facetOf s b f.val
    let y := facetOf (fillFor s b f.val r) b f.val
    let c := 24 * row + col
    findOp s e o.id = some o → x.filled ≠ some r → row < 8 → col < 24 →
    cellActive y c = ((passRows (geo s e) o.ins.op o.work).getD row []).getD col 0 ∧ cellBad y c = false
    ∧ BitVec.ofNat 8 ((cellOf y c).toNat / 2 ^ 9) = cellActive x c ∧ y.filled = some r

/-- LANE_PANE_COMPLETE with a finished pane, a free slot and a credit: the pane leaves the lanes for the update path, with the
content that the lanes computed, to be stamped with the operation's step once its holders have acknowledged (06 R178, 07 R191).
The model's own choices and readings that it rests on: notes/assumptions/11.md, notes/assumptions/37.md. -/
def Obligations.LanePaneHandedOn : Prop :=
  ∀ (s : State) (e : EngineId) (f : Fin 8) (id : Nat) (w : SweepWork) (o : Obj) (win : Window) (p : PaneOut) (rest : List PaneOut),
    (facetOf s e f.val).laneActive = some id → apertureStands s e = false → laneWork s e id = some w → parseObj w.desc = some o →
    w.started = true → w.ready = p :: rest → slotsUsed s e < reg s e regSweepPaneSlots → credit s e 0 ≠ 0 →
    paneWaits s e p.window p.row = false → windowRec s e p.window = some win → reconAt s e win.number p.row = none →
    holderList s e p.row (columnHere s e p.row) ≠ [] →
    Settled (exec (.lanePaneComplete e f) s) e (fun v =>
      (v.eng e).fab.jobs = (s.eng e).fab.jobs ++ [
        { id := (s.eng e).iss.nextId, owner := .op id, vc := 0, window := win.number, row := p.row, step := w.step,
          content := p.content, granules := allGranules, stamp := .sweep w.step, slot := true, unit := w.parcel.isNone,
          refused := [] }]
      ∧ laneWork v e id = some { w with ready := rest } ∧ opList v e = opList s e
      ∧ (v.eng e).iss.arrivals = (s.eng e).iss.arrivals ∧ (v.eng e).job = (s.eng e).job ∧ Local s v e)

/-! ## The stack's side -/

/-- A memory response answers the oldest request of its tag and kind: a clean read clears what was known of its granule, a corrected one
notes it; an error of the port ends the operation that asked with 0x40; a write's answer changes nothing else (01 R18, R19).
A presence lookup outside every window, or at an absent engine, is answered PRESENT; inside a window PRESENT or ZERO as the
pane is present, and ENGINE where the pane lies in a degraded range, is being installed or is lost, or the coded-write path holds a
write to it, and the engine then serves it (01 R25, R26, R55).
The model's own choices and readings that it rests on: notes/assumptions/8.md. -/
def Obligations.StackAnswers : Prop :=
  (
    ∀ (s : State) (e : EngineId) (tag : BitVec 12) (status : BitVec 2) (poisoned ack : Bool) (r : MemReq),
      let x := exec (.memResponse e tag status poisoned ack) s
      let gone := (s.eng e).mem.memReqs.erase r
      (s.eng e).mem.memReqs.find? (fun q => q.tag == tag.toNat && q.isWrite == ack) = some r →
      (r.isWrite = false → status = 0 → poisoned = false → Settled x e (fun v =>
        (v.eng e).mem = { (s.eng e).mem with memReqs := gone, health := Sys2Proof.AList.erase (s.eng e).mem.health r.granule }
        ∧ (v.eng e).iss = (s.eng e).iss ∧ Local s v e))
      ∧ (r.isWrite = false → status = 1 → poisoned = false → Settled x e (fun v =>
        (v.eng e).mem.memReqs = gone ∧ AList.get? (v.eng e).mem.health r.granule = some .corrected
        ∧ (v.eng e).mem.hbm = (s.eng e).mem.hbm ∧ Local s v e))
      ∧ (∀ id o, status = 3 → r.owner = some id → findOp s e id = some o → Settled x e (fun v =>
        (v.eng e).mem = { (s.eng e).mem with memReqs := gone }
        ∧ (∃ q, findOp v e id = some q ∧ q.work = .ended ∧ q.causes = o.causes ++ [0x40])))
      ∧ (r.isWrite = true → status ≠ 3 → Settled x e (fun v =>
        (v.eng e).mem = { (s.eng e).mem with memReqs := gone } ∧ (v.eng e).iss = (s.eng e).iss ∧ Local s v e)))
  ∧ (
    ∀ (s : State) (e : EngineId) (pane : BitVec 24),
      let x := exec (.presenceLookup e pane) s
      let out := fun (a : Presence) => Settled x e (fun v =>
        (v.eng e).mem.lookupOut = (s.eng e).mem.lookupOut ++ [(pane.toNat, a)] ∧ v.tier = s.tier)
      (present s e = false → out .present)
      ∧ (present s e = true → windowAt s e (pane.toNat * 4096) = none → out .present)
      ∧ (∀ w r, present s e = true → windowAt s e (pane.toNat * 4096) = some (w, r) → (s.eng e).lou.faults = [] →
        rowErased s e w r = false →
        let served := inRange s e w.number r || installing s e w.number r || paneLost s e w.number r
          || (s.eng e).mem.writes.any (fun y => y.accepted && y.window == w.number && y.row == r)
        (served = true → out .engine)
        ∧ (served = false → out (if rowPresent s e w r then .present else .zero))))

/-- A coded write of one or more granules to a data pane of a STATE window that can be used and that nothing is on its way to, with no
fault in the engine's own words: the pane with the enabled
bytes replaced goes through the update path as a coded pane of STEP 0. A write of another window class or of a parity row is
refused with 0x60 and changes no byte; one outside every window is performed. An access by the private filter entry of the accumulation region
completes with 0x60: a write is not performed and leaves a record, a read returns zero bytes (01 R22-R24, 05 R141).
The model's own choices and readings that it rests on: notes/assumptions/32.md, notes/assumptions/36.md, notes/assumptions/38.md. -/
def Obligations.CodedWrites : Prop :=
  (∀ (s : State) (e : EngineId) (granule : BitVec 30) (be : List (BitVec 64)) (data : List Byte),
    let g := granule.toNat
    let n := 64 * be.length
    let x := exec (.codedWrite e granule be data) s
    let id := (s.eng e).iss.nextId
    be ≠ [] → data.length = n → g % 64 + be.length ≤ 64 → present s e = true → runPrivate s e g be.length = false →
    (∀ w r, windowAt s e (64 * g) = some (w, r) → w.cls = 0 → holdsData s e r = true → (s.eng e).mem.writes = [] →
      apertureHolds s e = false → (s.eng e).job.ending ≠ .due → (s.eng e).bring.rst = none → paneWaits s e w.number r = false →
      laneHolds s e w.number r = false → (s.eng e).lou.faults = [] → (s.eng e).lou.flipArmed = false →
      (let u := tapRun be s e g data; paneUsable u e w r = (u, .good)) → windowRec s e w.number = some w →
      holderList s e r (columnHere s e r) ≠ [] →
      Settled x e (fun v => (v.eng e).fab.jobs = (s.eng e).fab.jobs ++ [
          { id := id + 1, owner := .write id, vc := 0, window := w.number, row := r, step := 0,
            content := patch (rowBytes s e w r) (64 * (g % 64))
              (mergeRun be (slice (rowBytes s e w r) (64 * (g % 64)) n) data),
            granules := (List.range be.length).map (g % 64 + ·), stamp := .coded, slot := false, unit := false, refused := [] }]
        ∧ (v.eng e).mem.agentOut = (s.eng e).mem.agentOut ∧ Local s v e))
    ∧ (∀ w r, windowAt s e (64 * g) = some (w, r) → (w.cls ≠ 0 ∨ holdsData s e r = false) →
      Settled x e (fun v => (v.eng e).mem.agentOut = (s.eng e).mem.agentOut ++ [
          { granule := g, write := true, status := 0x60, data := [] }]
        ∧ (v.eng e).mem.hbm = (s.eng e).mem.hbm ∧ (v.eng e).mem.writes = (s.eng e).mem.writes ∧ (v.eng e).fab = (s.eng e).fab
        ∧ Local s v e))
    ∧ (windowAt s e (64 * g) = none → (s.eng e).mem.hbm.wf = true →
      Settled x e (fun v => (v.eng e).mem.agentOut = (s.eng e).mem.agentOut ++ [
          { granule := g, write := true, status := 0, data := [] }]
        ∧ hbm v e (64 * g) n = mergeRun be (hbm s e (64 * g) n) data
        ∧ (∀ a, a < 64 * g ∨ 64 * g + n ≤ a → (v.eng e).mem.hbm.byteAt a = (s.eng e).mem.hbm.byteAt a)
        ∧ (v.eng e).fab = (s.eng e).fab ∧ Local s v e)))
  ∧ (∀ (s : State) (e : EngineId) (granule : BitVec 30) (write : Bool),
    let g := granule.toNat
    ((present s e = true ∧ isPrivate s e g = true) → Next (exec (.privateEntryAccess e granule write) s) (fun t =>
      (t.eng e).mem = { (s.eng e).mem with agentOut := (s.eng e).mem.agentOut ++ [
          { granule := g, write := write, status := 0x60, data := if write then [] else zeros 64 }] }
      ∧ (t.eng e).iss = (s.eng e).iss ∧ (t.eng e).job = (s.eng e).job ∧ Local s t e))
    ∧ (¬ (present s e = true ∧ isPrivate s e g = true) → exec (.privateEntryAccess e granule write) s = .next s))

/-- Every valid tap range that covers a write adds the hash of its offset, byte enables and enabled bytes to its sum, modulo 2^128, and
counts it. The write goes on as any agent's does: one outside every coded window is performed; one of another window class than STATE,
or of a parity row, is refused with 0x60 and changes no byte (01 R22, R24, 11 R309). -/
def Obligations.TapsAccumulate : Prop :=
  ∀ (s : State) (e : EngineId) (granule : BitVec 30) (be : BitVec 64) (data : List Byte),
    let g := granule.toNat
    let added := fun (t : State) => ∀ k, k < 4 → tapSum t e k = if tapCovers s e k g then
      { sum := ((tapSum s e k).sum + tapHash (g - 64 * (tapEntry s e k).2.2.1) be data) % 2 ^ 128
        count := ((tapSum s e k).count + 1) % 2 ^ 64 } else tapSum s e k
    present s e = true → isPrivate s e g = false →
    (windowAt s e (64 * g) = none → (s.eng e).mem.hbm.wf = true → Next (exec (.tapWrite e granule be data) s) (fun t => added t
      ∧ hbm t e (64 * g) 64 = mergeBytes (hbm s e (64 * g) 64) data be
      ∧ (∀ a, a < 64 * g ∨ 64 * g + 64 ≤ a → (t.eng e).mem.hbm.byteAt a = (s.eng e).mem.hbm.byteAt a)
      ∧ (t.eng e).iss = (s.eng e).iss ∧ (t.eng e).fab = (s.eng e).fab ∧ (t.eng e).job = (s.eng e).job ∧ Local s t e))
    ∧ (∀ w r, windowAt s e (64 * g) = some (w, r) → (w.cls ≠ 0 ∨ holdsData s e r = false) →
      Next (exec (.tapWrite e granule be data) s) (fun t => added t
        ∧ (t.eng e).mem.agentOut = (s.eng e).mem.agentOut ++ [{ granule := g, write := true, status := 0x60, data := [] }]
        ∧ (t.eng e).mem.hbm = (s.eng e).mem.hbm ∧ (t.eng e).fab = (s.eng e).fab ∧ (t.eng e).job = (s.eng e).job ∧ Local s t e))

/-! ## The tier -/

/-- A completion or a timeout ends one 64 B request of a transfer. The completion of one that has ended late is discarded and counted. A
request of a write that completes well stores its bytes and no others; while others of its transfer are left nothing else happens, and
the last of a wipe ends it. The last request of a cold fold's read asks for the fold's writes. The last of its writes frees the gather
slot and acknowledges every chunk; where it fails or does not come in time every chunk is refused and the pane is listed for repair,
the transfer's record staying only while a late completion is still to come (01 R46, R48, 08 R232, R233, 16 R418).
The model's own choices and readings that it rests on: notes/assumptions/39.md. -/
def Obligations.TierRequestsEnd : Prop :=
  ∀ (s : State) (request : Nat) (error : Bool) (t : TierReq),
    let e := engineOf t.engine
    let p := request % 64
    let r := t.partAt p
    let done := exec (.tierCompletion request false) s
    let stored := fun (v : State) => v.tier.read r.1 r.2 = slice t.bytes (64 * p) r.2
      ∧ (∀ a, a < r.1 ∨ r.1 + r.2 ≤ a → v.tier.byteAt a = s.tier.byteAt a)
    let good := t.lost.contains p = false ∧ t.out.contains p = true ∧ t.status = 0 ∧ tierInside s r.1 r.2 = true ∧ s.tier.wf = true
    let last := t.todo = [] ∧ t.out = [p]
    tierPart s request = some t →
    (t.lost.contains p = true → Next (exec (.tierCompletion request error) s) (fun u =>
      (let y := { t with lost := t.lost.filter (· != p) }
       u.group.coord.tierReqs = if y.live || !y.lost.isEmpty then s.group.coord.tierReqs.map (fun x => if x.id == t.id then y else x)
         else s.group.coord.tierReqs.filter (·.id != t.id))
      ∧ counter u e cntTierLateDiscards 0 = (counter s e cntTierLateDiscards 0 + 1) % 2 ^ 64
      ∧ (∀ d, (u.eng d).mem = (s.eng d).mem ∧ (u.eng d).iss = (s.eng d).iss ∧ (u.eng d).fab = (s.eng d).fab) ∧ u.tier = s.tier))
    ∧ (good → (t.todo ≠ [] ∨ ∃ q ∈ t.out, q ≠ p) → Next done (fun u => u.engines = s.engines
      ∧ (t.write = true → stored u) ∧ (t.write = false → u.tier = s.tier)))
    ∧ (good → last → t.write = true → t.cont = .wipe → Settled done e (fun v => stored v ∧ v.engines = s.engines))
    ∧ (∀ vc src col g w f, t.cont = .foldRead vc src col → (s.eng e).fab.complete.find? (gatherKey vc src col) = some g →
      windowRec s e g.window = some w → foldFacetOf s e g.row = some f → good → last → t.write = false →
      Settled done e (fun v => (∃ x ∈ v.group.coord.tierReqs, x.cont = .fold vc src col ∧ x.write = true ∧ x.addr = w.ledgerAt g.row)
        ∧ (v.eng e).fab = (s.eng e).fab ∧ (v.eng e).mem = (s.eng e).mem ∧ v.tier = s.tier ∧ (∀ d, d ≠ e → v.eng d = s.eng d)))
    ∧ (∀ vc src col g, t.cont = .fold vc src col → (s.eng e).fab.complete.find? (gatherKey vc src col) = some g →
      t.write = true → last → t.lost.contains p = false → t.status = 0 → (∀ x ∈ s.group.coord.tierReqs, x.after ≠ some t.id) →
      let folded := fun (v : State) => (v.eng e).fab.complete = (s.eng e).fab.complete.erase g
        ∧ (v.eng e).fab.egress.length = (s.eng e).fab.egress.length + g.chunks.length ∧ (∀ d, d ≠ e → v.eng d = s.eng d)
      (good → Settled done e (fun v => folded v ∧ stored v
          ∧ counter v e cntColdFolds 0 = (counter s e cntColdFolds 0 + 1) % 2 ^ 64))
      ∧ ((s.eng e).tier.repairs.length < 512 →
        Settled (exec (.tierCompletion request true) s) e (fun v => folded v
          ∧ (∀ a, a < r.1 ∨ r.1 + r.2 ≤ a → s.tier.wf = true → v.tier.byteAt a = s.tier.byteAt a)
          ∧ (t.lost = [] → ∀ x ∈ v.group.coord.tierReqs, x.id ≠ t.id)
          ∧ (g.window, g.row, columnHere s e g.row) ∈ (v.eng e).tier.repairs)
        ∧ Settled (exec (.tierLateTimeout request) s) e (fun v => folded v
          ∧ (∀ a, a < r.1 ∨ r.1 + r.2 ≤ a → s.tier.wf = true → v.tier.byteAt a = s.tier.byteAt a)
          ∧ (∃ x ∈ v.group.coord.tierReqs, x.id = t.id ∧ p ∈ x.lost ∧ x.live = false)
          ∧ (g.window, g.row, columnHere s e g.row) ∈ (v.eng e).tier.repairs)))

/-! ## Credits, resends, waits at the fabric -/

/-- CREDIT_GRANT adds a credit to its channel; where a chunk of the channel was stalled for want of one, the oldest of them leaves for
it. FABRIC_RESEND_TIMEOUT sends the oldest unanswered chunk again to the destination, with those a stub has refused since they last
went there, and counts the timeout unless the oldest is one of these, whose refusal has been counted; the eighth in a row stops the
destination and reports it. GEN_RETRY_INTERVAL sends a refused chunk again as a new chunk of the generation in force
(01 R28, R33, 09 R246, R253).
The model's own choices and readings that it rests on: notes/assumptions/18.md, notes/assumptions/19.md. -/
def Obligations.FabricSends : Prop :=
  (∀ (s : State) (e : EngineId) (vc : BitVec 2), let v := vc.toNat
    ((credit s e v ≠ 0 ∨ egressHead s e v = none) → Next (exec (.creditGrant e vc) s) (fun t =>
      credit t e v = credit s e v + 1 ∧ (t.eng e).fab.egress = (s.eng e).fab.egress ∧ (t.eng e).fab.out = (s.eng e).fab.out
      ∧ (∀ u, u ≠ v → credit t e u = credit s e u) ∧ (t.eng e).mem = (s.eng e).mem ∧ Apart s t e ∧ t.group = s.group))
    ∧ (∀ x, credit s e v = 0 → egressHead s e v = some x → Next (exec (.creditGrant e vc) s) (fun t =>
      credit t e v = 0 ∧ (t.eng e).fab.egress = (s.eng e).fab.egress.erase x ∧ (t.eng e).fab.out = (s.eng e).fab.out ++ [x]
      ∧ (∀ u, u ≠ v → credit t e u = credit s e u) ∧ (t.eng e).mem = (s.eng e).mem ∧ Apart s t e ∧ t.group = s.group)))
  ∧ (∀ (s : State) (e : EngineId) (chip : BitVec 13) (dst : BitVec 4) (vc : BitVec 2) (r : Request) (rest : List Request),
    let d := destOf s e chip.toNat dst.toNat vc.toNat
    let again := r :: rest.filter (fun q => q.stub.contains chip.toNat)
    let x := exec (.fabricResendTimeout e chip dst vc) s
    armed s e = true → present s e = true → awaiting s e chip.toNat dst.toNat vc.toNat = r :: rest →
    isStopped s e chip.toNat dst.toNat vc.toNat = false →
    (d.timeouts < 7 ∨ chip.toNat ∈ r.stub → Next x (fun t =>
      destOf t e chip.toNat dst.toNat vc.toNat
        = (if chip.toNat ∈ r.stub then d else { d with timeouts := d.timeouts + 1 })
      ∧ (t.eng e).fab.egress = (s.eng e).fab.egress ++ again.map (fun q => { dest := [chip.toNat], chunk := q.chunk })
      ∧ counter t e cntResends 0 = (counter s e cntResends 0 + again.length) % 2 ^ 64
      ∧ (t.eng e).fab.requests.length = (s.eng e).fab.requests.length ∧ (t.eng e).mem = (s.eng e).mem ∧ Local s t e))
    ∧ (7 ≤ d.timeouts → chip.toNat ∉ r.stub → Next x (fun t =>
      destOf t e chip.toNat dst.toNat vc.toNat = { d with timeouts := 8, stopped := true, reported := true }
      ∧ (t.eng e).fab.egress = (s.eng e).fab.egress ∧ (t.eng e).fab.requests = (s.eng e).fab.requests
      ∧ counter t e cntLossSuspects 0 = (counter s e cntLossSuspects 0 + 1) % 2 ^ 64
      ∧ (t.eng e).mem = (s.eng e).mem ∧ Local s t e)))
  ∧ (∀ (s : State) (e : EngineId) (tag : BitVec 12) (r : Request),
    (s.eng e).fab.requests.find? (fun q => q.tag == tag.toNat && q.hold == .retry) = some r →
    Settled (exec (.genRetryInterval e tag) s) e (fun t =>
      (∃ q ∈ (t.eng e).fab.requests, q.tag = r.tag ∧ q.hold = .none ∧ q.chunk.mapGen = genOf s e)
      ∧ (t.eng e).fab.requests.length = (s.eng e).fab.requests.length
      ∧ (r.column = none → counter t e cntGenResends 0 = (counter s e cntGenResends 0 + 1) % 2 ^ 64)
      ∧ (t.eng e).mem = (s.eng e).mem ∧ Apart s t e ∧ t.group = s.group))

/-- A request that has waited too long at the engine is refused: NAK 0x12, with the engine's generation, for one held for the next
generation, NAK 0x60 for an ACCUM_WRITE without its slot and for a MIRROR_REQ without its commit; it waits no longer, and every
other one goes on waiting (01 R34, 05 R149, 06 R186). An operation that has held a chunk for a newer generation too long, and has no
sweep block stamped in part, completes with an error: it is in flight no longer, its counter receives what is left of its total with the ERROR flag, and no chunk of it
awaits an answer (12 R354, 07 R435).
The model's own choices and readings that it rests on: notes/assumptions/19.md, notes/assumptions/42.md. -/
def Obligations.WaitsEndRefused : Prop :=
  (∀ (s : State) (e : EngineId) (h : Held),
    let refused := fun (o : Out) (st : Nat) => Settled o e (fun v =>
      (v.eng e).fab.held = (s.eng e).fab.held.erase h
      ∧ (∃ x : Sent, (v.eng e).fab.egress = (s.eng e).fab.egress ++ [x] ∧ x.dest = [h.chunk.srcChip.toNat]
        ∧ x.chunk.k = kindNak ∧ x.chunk.status.toNat = st ∧ x.chunk.tag = h.chunk.tag ∧ x.chunk.seq = h.chunk.seq
        ∧ (st = 0x12 → x.chunk.mapGen = genOf s e) ∧ crcGood x.chunk = true)
      ∧ (v.eng e).mem = (s.eng e).mem ∧ (v.eng e).job = (s.eng e).job ∧ Local s v e)
    (∀ vc : BitVec 2, (s.eng e).fab.held.find? (fun h => isGenHeld h && h.chunk.vc == vc) = some h →
      refused (exec (.genHoldTimeout e vc false) s) 0x12)
    ∧ (∀ (chip : BitVec 13) (eng : BitVec 4), (s.eng e).fab.held.find? (fun h =>
        h.why == .slotOpen && h.chunk.srcChip.toNat == chip.toNat && h.chunk.srcEngine.toNat == eng.toNat) = some h →
      refused (exec (.accOpenWaitTimeout e chip eng) s) 0x60)
    ∧ (∀ (chip : BitVec 13) (tag : BitVec 12), (s.eng e).fab.held.find? (fun h =>
        h.why == .commit && h.chunk.srcChip == chip && h.chunk.tag == tag) = some h →
      refused (exec (.mirrorWaitTimeout e chip tag) s) 0x60))
  ∧ (∀ (s : State) (e : EngineId) (vc : BitVec 2) (o : Op),
    let c := o.ins.body.counter.toNat
    (s.eng e).iss.ops.find? (fun o =>
      (s.eng e).fab.requests.any (fun r => heldNewer r && r.chunk.vc == vc && reqOfOp s e o.id r)) = some o →
    halfPanes s e o = [] →
    Settled (exec (.genHoldTimeout e vc true) s) e (fun v =>
      opList v e = (opList s e).filter (·.1 != o.id)
      ∧ arrival v e c = { value := (arrival s e c).value + BitVec.ofNat 32 (o.total - o.units), error := true }
      ∧ (∀ k, k ≠ c → arrival v e k = arrival s e k)
      ∧ (∀ r ∈ (v.eng e).fab.requests, r.owner ≠ .op o.id)))

/-! ## Barriers and apertures -/

/-- COMMIT_READY marks the oldest COMMIT or QUIESCE that has become ready. COMMIT_RELEASE of MODE 0 sets C to its step at every
engine whose ready COMMIT it releases, but for one that holds the step back after a SKIP, and completes the operation; MODE 2
completes and leaves C; a release without them and COMMIT_TIMEOUT, which completes with 0x10, leave C (07 R203-R208). -/
def Obligations.BarrierEvents : Prop :=
  (∀ (s : State) (e : EngineId) (o : Op) (step mode : Nat) (since : BitVec 64),
    (s.eng e).iss.ops.find? (fun o => match o.work with
      | .barrier t m ready _ => !ready && readyFor s e o.id t m
      | _ => false) = some o → o.work = .barrier step mode false since →
    Next (exec (.commitReady e) s) (fun t =>
      (t.eng e).iss.ops = (s.eng e).iss.ops.map (fun q => if q.id == o.id then { q with work := .barrier step mode true s.time } else q)
      ∧ SameData s t e ∧ Apart s t e ∧ (t.eng e).iss.arrivals = (s.eng e).iss.arrivals
      ∧ t.group.coord.stepC = s.group.coord.stepC))
  ∧ (∀ (s : State) (step : BitVec 32),
    SettledAll (exec (.commitRelease step 0) s) (fun v =>
      (∀ e o, present s e = true → readyBarrier s e step.toNat 0 = some o →
        ((v.eng e).job.committed = if (s.eng e).job.committed < step.toNat ∧ heldBack s e step.toNat = false then step.toNat
            else (s.eng e).job.committed)
        ∧ (∀ p ∈ opList v e, p.1 ≠ o.id))
      ∧ (∀ e, (present s e = false ∨ readyBarrier s e step.toNat 0 = none) → (v.eng e).job = (s.eng e).job)))
  ∧ (∀ (s : State) (step : BitVec 32),
    SettledAll (exec (.commitRelease step 2) s) (fun v =>
      (∀ e o, present s e = true → readyBarrier s e step.toNat 2 = some o →
        opList v e = (opList s e).filter (·.1 != o.id)
        ∧ arrival v e o.ins.body.counter.toNat =
            { value := (arrival s e o.ins.body.counter.toNat).value + BitVec.ofNat 32 (o.total - o.units)
              error := (arrival s e o.ins.body.counter.toNat).error })
      ∧ (∀ e, (v.eng e).job = (s.eng e).job ∧ (v.eng e).mem = (s.eng e).mem) ∧ v.tier = s.tier))
  ∧ (∀ (s : State) (e : EngineId) (o : Op) (step mode : Nat) (since : BitVec 64),
    (s.eng e).iss.ops.find? (fun o => match o.work with | .barrier _ _ ready _ => ready | _ => false) = some o →
    o.work = .barrier step mode true since →
    Next (exec (.commitTimeout e) s) (fun t =>
      opList t e = (opList s e).filter (·.1 != o.id)
      ∧ (arrival t e o.ins.body.counter.toNat).error = true
      ∧ (step, mode) ∉ t.group.coord.readyOut
      ∧ (∀ d, SameData s t d) ∧ t.tier = s.tier))

/-- APERTURE_READY gives a drained engine's vote. The release that fails completes every ready APERTURE with 0x60 and stages
nothing; the release that does not stages, with no row to repair, the generation of now: in copy mode the copy then runs, in
shadow mode the APERTURE completes. The end of the copy completes it; without a release it completes with 0x10 (10
R282-R285). -/
def Obligations.ApertureEvents : Prop :=
  (∀ (s : State) (e : EngineId) (o : Op) (gen step f : Nat) (a : BitVec 64),
    apertureOp s e = some (o, gen, step, false, f, a) → apertureDrained s e = true →
    Next (exec (.apertureReady e) s) (fun t =>
      (t.eng e).iss.ops = (s.eng e).iss.ops.map (fun q => if q.id == o.id then
        { q with work := .aperture gen step true (apertureCheck s e gen step) s.time } else q)
      ∧ SameData s t e ∧ Apart s t e))
  ∧ (∀ (s : State) (fail : Bool),
    SettledAll (exec (.apertureRelease fail) s) (fun v => v.group.coord.snapOut = []
      ∧ ∀ e o gen step f a, present s e = true → apertureOp s e = some (o, gen, step, true, f, a) →
        (fail = true → opList v e = (opList s e).filter (·.1 != o.id) ∧ (v.eng e).snap.snap = (s.eng e).snap.snap
          ∧ counter v e cntApertureFails 0 = (counter s e cntApertureFails 0 + 1) % 2 ^ 64 ∧ (v.eng e).mem.hbm = (s.eng e).mem.hbm)
        ∧ (fail = false →
          (∀ w ∈ myWindows s e, w.isHot = true → w.cls = 0 → ∀ r, r < w.length → rowErased s e w r = false) →
          (v.eng e).snap.snap = some (stagedNow s e gen) ∧ (v.eng e).mem.hbm = (s.eng e).mem.hbm
          ∧ (reg s e regSnapMode = 1 → opList v e = (opList s e).filter (·.1 != o.id)
            ∧ counter v e cntApertures 0 = (counter s e cntApertures 0 + 1) % 2 ^ 64)
          ∧ (reg s e regSnapMode ≠ 1 → opList v e = opList s e))))
  ∧ (∀ (s : State) (e : EngineId) (g : Staged) (o : Op) (gen step f : Nat) (ready : Bool) (a : BitVec 64),
    (s.eng e).snap.snap = some g → g.copying = true → apertureOp s e = some (o, gen, step, ready, f, a) →
    (s.eng e).job.ending = .no →
    Settled (exec (.apertureCopyEnd e) s) e (fun v => (v.eng e).snap.snap = some { g with copying := false }
      ∧ opList v e = (opList s e).filter (·.1 != o.id)
      ∧ counter v e cntApertures 0 = (counter s e cntApertures 0 + 1) % 2 ^ 64 ∧ Local s v e))
  ∧ (∀ (s : State) (e : EngineId) (o : Op) (gen step f : Nat) (a : BitVec 64),
    apertureOp s e = some (o, gen, step, true, f, a) → copyRuns s e = false →
    Settled (exec (.apertureTimeout e) s) e (fun v => opList v e = (opList s e).filter (·.1 != o.id)
      ∧ (arrival v e o.ins.body.counter.toNat).error = true ∧ (v.eng e).snap.snap = (s.eng e).snap.snap
      ∧ counter v e cntApertureFails 0 = (counter s e cntApertureFails 0 + 1) % 2 ^ 64 ∧ Local s v e))

/-! ## Background work -/

/-- An install of this pane is one more operation of its engine, waiting to start. -/
def Sys2Proof.Claims.Starts (s v : State) (e : EngineId) (p : Purpose) (window row column extra : Nat) (gather : Bool) : Prop :=
  (v.eng e).reb.installs = (s.eng e).reb.installs ++ [
    Install.fresh (s.eng e).iss.nextId p window row column extra gather]
  ∧ (v.eng e).mem = (s.eng e).mem ∧ (v.eng e).fab = (s.eng e).fab ∧ (v.eng e).job = (s.eng e).job ∧ Local s v e

/-- What starts in the background: the scrubber verifies its next row or counts one that it skips; a spare installs its next pane;
the next listed cold pane is repaired; a drill starts with its period, or is skipped while an enrolment range is open or an
aperture is under way, and takes its next row (08 R233, 09 R262, R268, 11 R319, 14 R389).
The model's own choices and readings that it rests on: notes/assumptions/30.md, notes/assumptions/43.md. -/
def Obligations.BackgroundWork : Prop :=
  ∀ (s : State) (e : EngineId), present s e = true →
    (∀ w row,
      let ws := (myWindows s e).mergeSort (fun a b => a.number ≤ b.number)
      armed s e = true → reg s e regScrubShare ≠ 0 → installsWait s e = false →
      (∀ n ∈ (s.eng e).reb.installs, (∀ b, n.purpose ≠ .verify none b) ∧ ∀ d b, n.purpose ≠ .rowCheck none d b) →
      walkRow ws (s.eng e).lou.scrub = some (w, row) →
      (verifySkips s e w row = true → Next (exec (.scrubRow e) s) (fun t =>
        counter t e cntScrubSkipped 0 = (counter s e cntScrubSkipped 0 + 1) % 2 ^ 64 ∧ (t.eng e).lou.scrub = placeAfter ws w row
        ∧ (t.eng e).reb = (s.eng e).reb ∧ (t.eng e).mem = (s.eng e).mem ∧ Apart s t e))
      ∧ (verifySkips s e w row = false → Settled (exec (.scrubRow e) s) e (fun v =>
        Starts s v e (.verify none false) w.number row (columnHere s e row) 0 false ∧ (v.eng e).lou.scrub = placeAfter ws w row)))
    ∧ (∀ w row, (s.eng e).reb.enrolled = true → (s.eng e).reb.firstCommit = true → reg s e regRebuildShare ≠ 0 →
      installsWait s e = false →
      (backgroundOrder s e).findSome? (fun p => (p.2.find? (lacks s e p.1)).map (fun r => (p.1, r))) = some (w, row) →
      Settled (exec (.backgroundInstall e) s) e (fun v =>
        Starts s v e (.install true) w.number row (columnHere s e row) 0 false))
    ∧ (∀ w row col, (s.eng e).tier.repairs.find? (fun r => !installing s e r.1 r.2.1 && !paneLost s e r.1 r.2.1) = some (w, row, col) →
      Settled (exec (.coldRepair e) s) e (fun v => Starts s v e .coldRepair w row col 0 true))
    ∧ (armed s e = true → reg s e regDrillPeriod ≠ 0 → reg s e regDrillRegionPanes ≠ 0 → (s.eng e).lou.drill.running = false →
      let d := (s.eng e).lou.drill
      let off := (∃ p ∈ (s.eng e).reb.ranges, p.2.local_ = false) ∨ (apertureOp s e).isSome = true ∨ copyRuns s e = true
      (off → Next (exec (.drillPeriod e) s) (fun t => (t.eng e).lou.drill.running = false ∧ (t.eng e).lou.drill.pos = d.pos
        ∧ (t.eng e).lou.drill.seq = (d.seq + 1) % 65536
        ∧ counter t e cntDrillsSkipped 0 = (counter s e cntDrillsSkipped 0 + 1) % 2 ^ 64
        ∧ (t.eng e).reb = (s.eng e).reb ∧ (t.eng e).mem = (s.eng e).mem ∧ Apart s t e))
      ∧ (¬ off → Settled (exec (.drillPeriod e) s) e (fun v =>
        (v.eng e).lou.drill = { d with running := true, rows := 0, mismatches := 0, at_ := d.pos }
        ∧ (v.eng e).reb = (s.eng e).reb ∧ (v.eng e).mem = (s.eng e).mem ∧ Local s v e)))
    ∧ (∀ w row, (s.eng e).lou.drill.running = true → installsWait s e = false → activeInstalls s e < reg s e regChainsMax →
      (s.eng e).lou.drill.rows + (drillRows s e).length < drillTotal s e →
      walkRow (drillWindows s e) (s.eng e).lou.drill.at_ = some (w, row) → drillSkips s e w row = false →
      Settled (exec (.drillRow e) s) e (fun v =>
        Starts s v e .drill w.number row (columnHere s e row) (drillExtra s e (columnHere s e row)) false
        ∧ (v.eng e).lou.drill.at_ = placeAfter (drillWindows s e) w row))

/-- Waits that end in a rebuild: a chain whose sum has not come starts again with nothing gathered; an arbitration goes on without
the mirror's digest; a PREFETCH that waits for a listed pane meets 0x30 (08 R230, 09 R266, 11 R315). -/
def Obligations.RebuildWaitsEnd : Prop :=
  (∀ (s : State) (e : EngineId) (id : Nat) (n : Install), findInstall s e id = some n → n.phase = .reading → n.gather = false →
    Settled (exec (.chainTimeout e id) s) e (fun v =>
      findInstall v e id = some { n with phase := .waiting, sources := [], sum := [], finals := [] }
      ∧ counter v e cntChainRestarts 0 = (counter s e cntChainRestarts 0 + 1) % 2 ^ 64
      ∧ (v.eng e).mem = (s.eng e).mem ∧ Local s v e))
  ∧ (∀ (s : State) (e : EngineId) (id i ch : Nat) (d : Option (List Byte)) (n : Install),
    findInstall s e id = some n → n.purpose = .arbitrate i ch d false →
    Settled (exec (.arbitrationDigestTimeout e id) s) e (fun v =>
      findInstall v e id = some { n with purpose := .arbitrate i ch d true }
      ∧ (v.eng e).mem = (s.eng e).mem ∧ (v.eng e).fab = (s.eng e).fab ∧ Local s v e))
  ∧ (∀ (s : State) (e : EngineId) (id : Nat) (o : Op) (m : MoveWork),
    findOp s e id = some o → o.work = .move m → m.up = true → m.phase = .readHome → moveBusy s e id = false →
    Next (exec (.coldRepairWaitTimeout e id) s) (fun t => (∃ q, findOp t e id = some q ∧ q.causes = o.causes ++ [0x30])
      ∧ counter t e cntTierLate 0 = (counter s e cntTierLate 0 + 1) % 2 ^ 64
      ∧ (t.eng e).job = (s.eng e).job ∧ Local s t e))

/-! ## Activity and power -/

/-- A window of 256 cycles moves a facet's activity toward what it wants by at most 12,288; auto-fill ends with its gap; a crossbar
window starts the charges again, under the budget now written; the estimate gives every present engine's facets the cap in proportion to the limit, whatever the
estimate is (a free value, notes/assumptions/3.md). The group raises PWR_REQ for one facet at a time; PWR_GOOD of a requested
island powers it; a late one fails stage 0 (04 R124, R126, R131, 15 R394-R396, R409). -/
def Obligations.PowerEvents : Prop :=
  (∀ (s : State) (e : EngineId) (f : Fin 8),
    let x := facetOf s e f.val
    let want := min (activityLimit x) (if x.autofill = true ∧ x.current = 0 then x.lastAct else x.current)
    Next (exec (.activityWindow e f) s) (fun t => let y := facetOf t e f.val
      y.current = 0 ∧ y.activity ≤ x.activity + 12288 ∧ x.activity ≤ y.activity + 12288
      ∧ (want ≤ x.activity + 12288 → x.activity ≤ want + 12288 → y.activity = want)
      ∧ y.queue = x.queue ∧ y.cells = x.cells ∧ (∀ g : Fin 8, g ≠ f → facetOf t e g.val = facetOf s e g.val) ∧ NoData s t))
  ∧ (∀ (s : State) (e : EngineId) (f : Fin 8), Next (exec (.autofillGapEnd e f) s) (fun t =>
      facetOf t e f.val = { facetOf s e f.val with autofill := false }
      ∧ (∀ g : Fin 8, g ≠ f → facetOf t e g.val = facetOf s e g.val) ∧ NoData s t))
  ∧ (∀ s : State, Next (exec .crossbarWindow s) (fun t =>
      (∀ a b, xbarCharge t a b = 0)
      ∧ (∀ e, (t.eng e).iss = { (s.eng e).iss with lendBudget := reg s e regXbarLendBudget } ∧ SameData s t e)
      ∧ t.tier = s.tier ∧ t.group.coord.tierReqs = s.group.coord.tierReqs))
  ∧ (∀ s : State, Next (exec .powerEstimate s) (fun t =>
      let limit := greg s regGroupPowerLimit
      let pct := if t.group.coord.powerEst.toNat ≤ limit then 100 else limit * 100 / t.group.coord.powerEst.toNat
      t.group.coord.powerCap = pct
      ∧ (∀ e f, f < 8 → present s e = true → facetOf t e f = { facetOf s e f with capPercent := pct })
      ∧ (∀ e, present s e = false → t.eng e = s.eng e) ∧ t.tier = s.tier))
  ∧ (∀ (s : State) (e : EngineId) (f : Nat), f < 8 → islandsGood s = true →
    ((allEngines.filter (enginePresent s)).flatMap (fun e => (liveFacets s e).map (fun f => (e, f)))).find?
      (fun p => !(facetOf s p.1 p.2).requested && (s.eng p.1).bring.rst.isNone) = some (e, f) →
    Next (exec .facetPowerStagger s) (fun t => facetOf t e f = { facetOf s e f with requested := true }
      ∧ (∀ g, g < 8 → g ≠ f → facetOf t e g = facetOf s e g) ∧ NoData s t))
  ∧ (∀ (s : State) (e : EngineId), (s.eng e).bring.islandReq = true → Next (exec (.pwrGood e none) s) (fun t =>
      (t.eng e).bring.islandGood = true
      ∧ (t.eng e).bring.position = (if (s.eng e).bring.position = .unpowered then .inReset else (s.eng e).bring.position)
      ∧ (t.eng e).mem = (s.eng e).mem ∧ (t.eng e).iss = (s.eng e).iss ∧ Apart s t e ∧ t.group = s.group))
  ∧ (∀ (s : State) (e : EngineId) (f : Fin 8), (facetOf s e f.val).requested = true → Next (exec (.pwrGood e (some f)) s) (fun t =>
      facetOf t e f.val = { facetOf s e f.val with powered := true, current := 0, lastAct := 0 }
      ∧ (∀ g : Fin 8, g ≠ f → facetOf t e g.val = facetOf s e g.val) ∧ NoData s t))
  ∧ (∀ (s : State) (e : EngineId) (facet : Option (Fin 8)), stageOpen s e 0 = true →
    (match facet with
      | none => (s.eng e).bring.islandReq = true ∧ (s.eng e).bring.islandGood = false
      | some f => (facetOf s e f.val).requested = true ∧ (facetOf s e f.val).powered = false) →
    Next (exec (.pwrGoodLate e facet) s) (fun t => stageResult t e 0 = some 3 ∧ (t.eng e).bring.lastStage = (s.eng e).bring.lastStage
      ∧ (t.eng e).bring.position = (s.eng e).bring.position ∧ (t.eng e).mem = (s.eng e).mem ∧ (t.eng e).iss = (s.eng e).iss
      ∧ Apart s t e ∧ t.group = s.group))

/-! ## Health -/

/-- The leak takes one from the bucket. A risk period shows the score and its weights; at or above the threshold an armed request is
raised and disarmed, and well below it a raised one is armed again. A stale input is reported once. The oldest record is delivered
and dropped ones are then reported. Time runs on, or is reported where it runs backward, which cancels a latch far away (01 R44,
R45, R50, 11 R327, 14 R381, R385-R387); what runs then, the lease among it, runs anew from the new time (01 R50).
The counter latch. A write of 1 with a moment that has not passed and is at most 60 s away arms it at that time, of 2 with an
uncommitted step at that step, of 0 cancels it; it fires once the time base has reached the moment: every present engine then holds
the image of its counters, the sequence number rises by 1, and it is no longer armed (14 R380-R382).
The model's own choices and readings that it rests on: notes/assumptions/6.md, notes/assumptions/40.md, notes/assumptions/44.md. -/
def Obligations.HealthAndLatchEvents : Prop :=
  (
    (∀ (s : State) (e : EngineId), Next (exec (.ceLeakInterval e) s) (fun t =>
        (t.eng e).lou.bucket = (s.eng e).lou.bucket - 1 ∧ (t.eng e).mem = (s.eng e).mem ∧ (t.eng e).dict = (s.eng e).dict
        ∧ Apart s t e ∧ t.group = s.group))
    ∧ (∀ s : State,
      let score := min 255 ((riskWeights s).foldl (· + ·) 0)
      let thr := greg s regRiskThreshold
      let h := s.group.health
      Next (exec .riskPeriod s) (fun t =>
        t.group.health.riskView = put score 8 56 + packWeights (riskWeights s)
        ∧ (thr ≤ score → h.armedReq = true → t.group.health.armedReq = false ∧ t.group.health.lastReq = some s.time
            ∧ gcounter t cntSecureRequests = (gcounter s cntSecureRequests + 1) % 2 ^ 64)
        ∧ (score < thr → score + greg s regRiskHysteresis ≤ thr → h.lastReq ≠ none → t.group.health.armedReq = true)
        ∧ (score < thr → t.group.ev = s.group.ev)
        ∧ t.engines = s.engines ∧ t.tier = s.tier))
    ∧ (∀ (s : State) (i : HealthInput), Next (exec (.inputStale i) s) (fun t =>
        (match i with
          | .linkRetries => t.group.health.staleLink = true ∧ t.group.health.staleTherm = s.group.health.staleTherm
              ∧ (s.group.health.staleLink = true → t = s)
          | .thermalMargin => t.group.health.staleTherm = true ∧ t.group.health.staleLink = s.group.health.staleLink
              ∧ (s.group.health.staleTherm = true → t = s))
        ∧ t.engines = s.engines ∧ t.tier = s.tier))
    ∧ (∀ (s : State) (r : EventRec) (rest : List EventRec), s.group.ev.queue = r :: rest → Next (exec .eventDeliver s) (fun t =>
        t.group.ev.delivered = s.group.ev.delivered ++ [r]
        ∧ (s.group.ev.dropped = 0 → t.group.ev.queue = rest)
        ∧ (s.group.ev.dropped ≠ 0 → rest.length < 256 → t.group.ev.dropped = 0 ∧ ∃ x : EventRec, t.group.ev.queue = rest ++ [x]
            ∧ x.code = evOverflow ∧ x.args = s.group.ev.dropped % 2 ^ 32)
        ∧ t.engines = s.engines ∧ t.tier = s.tier))
    ∧ (∀ (s : State) (time : BitVec 64), Next (exec (.timeBackward time) s) (fun t =>
        let l := s.group.health.latch
        t.time = time ∧ t.engines.map (·.mem) = s.engines.map (·.mem) ∧ t.engines.map (·.iss) = s.engines.map (·.iss)
        ∧ (s.time ≤ time → t = { s with time := time })
        ∧ (time < s.time → l.kind = 1 → time.toNat + 1000000000 < l.at_ →
            t.group.health.latch.kind = 0 ∧ t.group.health.latch.state = 3)
        ∧ (time < s.time → (l.kind ≠ 1 ∨ l.at_ ≤ time.toNat + 1000000000) →
            t.group.health = { s.group.health with lastReq := s.group.health.lastReq.map (fun _ => time) })
        ∧ (time < s.time → s.group.lc.state = .service → t.group.lc.leaseEnd = afterMinutes time s.group.lc.lease))))
  ∧ (
    ∀ s : State, let l := s.group.health.latch
      let at_ := greg s regLatchAt
      let ok := fun (t : State) => t.group.dict.resp = some { code := 0, data := [], segment := 0 } ∧ t.tier = s.tier
      (l.kind = 1 → l.at_ ≤ s.time.toNat → Next (exec .latchFireAtTime s) (fun t =>
        t.group.health.latch = { l with kind := 0, seq := (l.seq + 1) % 2 ^ 32, late := false, state := 2 }
        ∧ (∀ e, present s e = true → (t.eng e).dict.latchImage = engineImage s e ((l.seq + 1) % 2 ^ 32) false)
        ∧ (∀ e, (t.eng e).mem = (s.eng e).mem ∧ (t.eng e).iss = (s.eng e).iss ∧ (t.eng e).dict.counters = (s.eng e).dict.counters)
        ∧ t.tier = s.tier))
      ∧ (s.group.lc.blowing = none → s.group.lc.state ≠ .returned →
        (s.time.toNat ≤ at_ → at_ ≤ s.time.toNat + 60000000000 → Next (exec .latchAtTime s) (fun t => ok t
          ∧ t.group.health.latch = { l with kind := 1, at_ := at_, state := 1 } ∧ t.engines = s.engines))
        ∧ (s.group.coord.stepC < at_ → Next (exec .latchAtStep s) (fun t => ok t
          ∧ t.group.health.latch = { l with kind := 2, at_ := at_, state := 1 } ∧ t.engines = s.engines))
        ∧ (l.kind ≠ 0 → Next (exec .latchCancel s) (fun t => ok t
          ∧ t.group.health.latch = { l with kind := 0, state := 3 } ∧ t.engines = s.engines))))

/-! ## The dictionary port -/

namespace Sys2Proof.Claims

open Sys2Proof Sys2Proof.Machine

/-- The last transaction was answered 0x00, with no data. -/
def Accepted (t : State) : Prop := t.group.dict.resp = some { code := 0, data := [], segment := 0 }

/-- The last transaction was refused with a code: 8 bytes of data (13 R370). -/
def Refused (t : State) (code : Nat) : Prop :=
  ∃ d : List Byte, d.length = 8 ∧ t.group.dict.resp = some { code := code, data := d, segment := 0 }

/-- No engine, no tier byte and no register of the group changes: only the response is another. -/
def OnlyResponse (s t : State) : Prop :=
  t = { s with group := { s.group with dict := { s.group.dict with resp := t.group.dict.resp } } }

/-- Every engine but that of the scope, and every byte of every stack and of the tier, is as it was. -/
def OnlyScope (s t : State) (sc : Scope) : Prop :=
  (∀ d, sc ≠ some d → t.eng d = s.eng d) ∧ (∀ d, (t.eng d).mem = (s.eng d).mem) ∧ t.tier = s.tier

/-- A transaction is served by a scope: no fuse blow is awaited, and ENGINE_SEL names a present engine or the group
(01 R43, 13 R357, 16 R418). -/
structure Serves (s : State) (sc : Scope) (sel : BitVec 4) : Prop where
  idle  : s.group.lc.blowing = none
  named : match sc with
    | some e => sel.toNat = e.val ∧ present s e = true
    | none => sel = 0xe

/-- A BLOB is whole with this segment: the one segment of it, or the one that continues its assembly (13 R359). -/
structure Whole (s : State) (sc : Scope) (r : Nat × Nat) (segment : BitVec 16) (data bs : List Byte) : Prop where
  last  : bit segment.toNat 15 = true
  size  : data ≠ [] ∧ data.length ≤ 256
  bytes : (segment.toNat % 2 ^ 15 = 0 ∧ bs = data)
    ∨ (0 < segment.toNat % 2 ^ 15 ∧ ∃ a, (storeOf s sc).asm = some a ∧ a.index = r.1 ∧ a.sub = r.2
        ∧ a.next = segment.toNat % 2 ^ 15 ∧ bs = a.bytes ++ data)

/-- A state in which no BLOB is in assembly in a scope, otherwise as it was. -/
def noAsm (s : State) (sc : Scope) : State := setAsm s sc none

/-- Neither a TABLE nor a BLOB. -/
def isScalar : Ty → Bool
  | .table _ _ => false
  | .blob _ _ => false
  | _ => true

end Sys2Proof.Claims

/-! ## Life cycle -/

/-- The service tier ends with the lease and with *LC_RELOCK*, and a flip-mask of KIND 2 with it; a lockout ends. *LC_ADVANCE* asks
for the fuse blow that the life-cycle state allows, and for RETURN also for zeros over both manifests of every engine; every other
request is refused with 0x02. FUSE_READBACK answers it: the new state, or 0x06 and the state as it was. An *AUTH_REQUEST* that
passes opens the service tier for its lease or asks for RETURN; one that does not is refused with the code of the first check it
fails. Either way a new challenge is made (16 R418, R421-R427).
The model's own choices and readings that it rests on: notes/assumptions/7.md, notes/assumptions/45.md. -/
def Obligations.LifeCycleCommands : Prop :=
  ∀ s : State, let l := s.group.lc
    let ended := fun (t : State) => t.group.lc = { l with state := .operate, leaseEnd := 0 }
      ∧ (∀ e, (t.eng e).lou.flipArmed = ((s.eng e).lou.flipArmed && flipKind s e != 2)
        ∧ (t.eng e).mem = (s.eng e).mem ∧ (t.eng e).job = (s.eng e).job ∧ (t.eng e).iss = (s.eng e).iss) ∧ t.tier = s.tier
    let asked := fun (t : State) (b : FuseBlow) => t.group.lc = { l with blowing := some b } ∧ t.group.dict.resp = none
      ∧ t.engines = s.engines ∧ t.tier = s.tier
    (l.state = .service → Next (exec .leaseExpiry s) ended)
    ∧ (l.state ≠ .service → exec .leaseExpiry s = .next s)
    ∧ Next (exec .lockoutExpiry s) (fun t => t.group.lc = { l with lockout := false, lockEnd := 0 } ∧ t.engines = s.engines ∧ t.tier = s.tier)
    ∧ (l.blowing = none →
      (l.state = .service → Next (exec (.lcRelock 1) s) (fun t => Accepted t ∧ ended t))
      ∧ (l.state ≠ .service → Next (exec (.lcRelock 1) s) (fun t => Refused t 2 ∧ OnlyResponse s t))
      ∧ (l.state = .test → keyCommitted s = true → Next (exec .lcAdvanceProvisioned s) (fun t => asked t .provisioned))
      ∧ ((l.state ≠ .test ∨ keyCommitted s = false) → Next (exec .lcAdvanceProvisioned s) (fun t => Refused t 2 ∧ OnlyResponse s t))
      ∧ (l.state = .provisioned → Next (exec .lcAdvanceField s) (fun t => asked t .field))
      ∧ (l.state ≠ .provisioned → Next (exec .lcAdvanceField s) (fun t => Refused t 2 ∧ OnlyResponse s t))
      ∧ (l.state = .test → Next (exec .lcAdvanceReturn s) (fun t => asked t .returned
        ∧ ∀ e slot, present s e = true → reg s e regArchivePanes ≠ 0 → slot < 2 → ∃ q ∈ t.group.coord.tierReqs,
            q.engine = e.val ∧ q.addr = Archive.base s e slot ∧ q.bytes = zeros 4096 ∧ q.write = true ∧ q.live = true ∧ q.cont = .wipe))
      ∧ (l.state ≠ .test → Next (exec .lcAdvanceReturn s) (fun t => Refused t 2 ∧ OnlyResponse s t)))
    ∧ (∀ b, l.blowing = some b → wiping s = false →
      Next (exec (.fuseReadback false) s) (fun t => Refused t 6
        ∧ t.group.lc = { l with blowing := none, lastAuth := if b = .authReturned then 6 else l.lastAuth }
        ∧ t.engines = s.engines ∧ t.tier = s.tier)
      ∧ (b = .provisioned → Next (exec (.fuseReadback true) s) (fun t => Accepted t
        ∧ t.group.lc = { l with blowing := none, state := .provisioned, lcFuses := l.lcFuses ||| 1#64, keyFuses := serviceKey s }
        ∧ t.engines = s.engines ∧ t.tier = s.tier))
      ∧ (b = .field → Next (exec (.fuseReadback true) s) (fun t => Accepted t
        ∧ t.group.lc = { l with blowing := none, state := .operate, lcFuses := l.lcFuses ||| 2#64 }
        ∧ t.engines = s.engines ∧ t.tier = s.tier))
      ∧ ((b = .returned ∨ b = .authReturned) → Next (exec (.fuseReadback true) s) (fun t => Accepted t
        ∧ t.group.lc.state = .returned ∧ t.group.lc.lcFuses = l.lcFuses ||| 4#64 ∧ t.group.lc.blowing = none
        ∧ t.group.lc.keyFuses = List.replicate 32 0xff
        ∧ ∀ e, (t.eng e).job.job = none ∧ (t.eng e).job.staged = none ∧ (t.eng e).mem.hbm = [])))
    ∧ (∀ (c : Instr) (data : List Byte), (c = .authServiceUnlock 0x8000 data ∨ c = .authReturn 0x8000 data) →
      l.blowing = none → data.length = 88 →
      let fresh := fun (t : State) => t.group.lc.challenges = (l.challenges + 1) % 2 ^ 32 ∧ t.group.lc.challengeT = s.time
        ∧ t.engines = s.engines ∧ t.tier = s.tier
      (∀ code, authCheck s data = some code → Next (exec c s) (fun t => Refused t code ∧ fresh t ∧ t.group.lc.state = l.state
        ∧ t.group.lc.lastAuth = code
        ∧ t.group.lc.authFails = if authRanges (leAt data 0 4) (leAt data 4 4) = true then (l.authFails + 1) % 256 else l.authFails))
      ∧ (authCheck s data = none → leAt data 0 4 = 1 → Next (exec c s) (fun t => Accepted t ∧ fresh t ∧ t.group.lc.state = .service
        ∧ t.group.lc.leaseEnd = s.time + BitVec.ofNat 64 (leAt data 4 4 * 60000000000) ∧ t.group.lc.authFails = 0
        ∧ t.group.lc.lastAuth = 0))
      ∧ (authCheck s data = none → leAt data 0 4 = 2 → Next (exec c s) (fun t => t.group.dict.resp = none ∧ fresh t
        ∧ t.group.lc.state = l.state ∧ t.group.lc.blowing = some .authReturned ∧ t.group.lc.authFails = 0)))

/-! ## Dictionary transactions -/

/-- A transaction on an entry. It is refused with 0x01 where there is no such entry, 0x02 without the right, 0x03 where it does not
fit the type, 0x04 outside the range, 0x05 while the entry's group waits; otherwise an RWS write goes to the shadow and makes its
group DIRTY, an RW write is committed at once, and a read of a stored value returns it (01 R43, 13 R356-R366). BLOB segments are
assembled, and the last one stages the value (13 R359). A flip-mask is armed where its KIND is allowed, and disarmed; a write of
*LEDGER_PEEK* in TEST replaces the ledger word it names (11 R326, 16 R420).
The model's own choices and readings that it rests on: notes/assumptions/40.md. -/
def Obligations.DictionaryTransactions : Prop :=
  (∀ (s : State) (sc : Scope) (t : Txn), Serves s sc t.engineSel → t.sub.toNat ≠ 0 →
    let r := (t.index.toNat, t.sub.toNat)
    let x := exec (.registerWrite t) s
    (findEntry r.1 r.2 = none → Next x (fun u => Refused u 1 ∧ OnlyResponse s u))
    ∧ ∀ en, findEntry r.1 r.2 = some en → en.shared = sc.isNone → isScalar en.ty = true → r.1 ≠ 0x1000 →
      let v := leNat t.data
      (isWrite t = true → mayWrite s en r = false → Next x (fun u => Refused u 2 ∧ OnlyResponse s u))
      ∧ (isWrite t = false → mayRead s en = false → Next x (fun u => Refused u 2 ∧ OnlyResponse s u))
      ∧ (isWrite t = true → mayWrite s en r = true →
        (fits en t = false → Next x (fun u => Refused u 3 ∧ OnlyResponse s u))
        ∧ (fits en t = true → valueFits s sc en r v = false → Next x (fun u => Refused u 4 ∧ OnlyResponse s u))
        ∧ (fits en t = true → valueFits s sc en r v = true → entryWaits s sc en = true →
          Next x (fun u => Refused u 5 ∧ OnlyResponse s u))
        ∧ (fits en t = true → valueFits s sc en r v = true → entryWaits s sc en = false →
          (en.right = .rws → Next x (fun u => Accepted u ∧ AList.get? (storeOf u sc).shadow (r.1, r.2, 0) = some v
            ∧ (∀ k, k ≠ (r.1, r.2, 0) → AList.get? (storeOf u sc).shadow k = AList.get? (storeOf s sc).shadow k)
            ∧ (storeOf u sc).regs = (storeOf s sc).regs
            ∧ groupStat u sc en.group = { groupStat s sc en.group with mode := .dirty }
            ∧ (∀ g, g ≠ en.group → groupStat u sc g = groupStat s sc g) ∧ OnlyScope s u sc))
          ∧ (en.right = .rw → r.1 ≠ regFlipmaskArm.1 → Next x (fun u => Accepted u
            ∧ AList.get? (storeOf u sc).regs (r.1, r.2, 0) = some v
            ∧ (∀ k, k ≠ (r.1, r.2, 0) → AList.get? (storeOf u sc).regs k = AList.get? (storeOf s sc).regs k)
            ∧ (storeOf u sc).shadow = (storeOf s sc).shadow ∧ (∀ g, groupStat u sc g = groupStat s sc g) ∧ OnlyScope s u sc))))
      ∧ (isWrite t = false → mayRead s en = true → fits en t = true → entryWaits s sc en = false → Next x (fun u =>
        u.group.dict.resp = some { code := 0, data := leBytes (readWord s sc r.1 r.2 0) en.ty.width, segment := 0 }
        ∧ OnlyResponse s u)))
  ∧ (∀ (s : State) (sc : Scope) (t : Txn) (en : Entry) (lo hi : Nat), Serves s sc t.engineSel → t.op = 2 → t.sub.toNat ≠ 0 →
    t.length.toNat = t.data.length →
    let r := (t.index.toNat, t.sub.toNat)
    let x := exec (.blobSegmentWrite t) s
    findEntry r.1 r.2 = some en → en.shared = sc.isNone → en.ty = .blob lo hi → en.right = .rws → r ≠ regMapStage →
    mayWrite s en r = true → entryWaits s sc en = false →
    (t.segment = 0 → t.data.length = 256 → 256 ≤ hi → Next x (fun u => Accepted u
      ∧ (storeOf u sc).asm = some { index := r.1, sub := r.2, next := 1, bytes := t.data }
      ∧ (storeOf u sc).shadowBlobs = (storeOf s sc).shadowBlobs ∧ OnlyScope s u sc))
    ∧ (∀ bs, Whole s sc r t.segment t.data bs → lo ≤ bs.length → bs.length ≤ hi → Next x (fun u => Accepted u
      ∧ (storeOf u sc).asm = none ∧ AList.get? (storeOf u sc).shadowBlobs r = some bs
      ∧ (storeOf u sc).blobs = (storeOf s sc).blobs
      ∧ groupStat u sc en.group = { groupStat s sc en.group with mode := .dirty } ∧ OnlyScope s u sc)))
  ∧ (∀ (s : State) (e : EngineId) (sel : BitVec 4), Serves s (some e) sel →
    let code := flipCode s (flipTarget s e)
    let same := fun (t : State) => (t.eng e).mem = (s.eng e).mem ∧ (t.eng e).dict = (s.eng e).dict ∧ Apart s t e
    Next (exec (.flipmaskArm sel 0) s) (fun t => Accepted t ∧ (t.eng e).lou = { (s.eng e).lou with flipArmed := false } ∧ same t)
    ∧ (code = 0 → Next (exec (.flipmaskArm sel 1) s) (fun t => Accepted t
      ∧ (t.eng e).lou = { (s.eng e).lou with flipArmed := true } ∧ same t))
    ∧ (code ≠ 0 → Next (exec (.flipmaskArm sel 1) s) (fun t => Refused t code ∧ OnlyResponse s t)))
  ∧ (∀ (s : State) (e : EngineId) (sel : BitVec 4) (data : List Byte) (w : Window) (row : Nat), Serves s (some e) sel →
    data.length = 8 →
    let x := exec (.ledgerPeekWrite sel data) s
    (s.group.lc.state ≠ .test → Next x (fun t => Refused t 2 ∧ OnlyResponse s t))
    ∧ (s.group.lc.state = .test → peekRow s e = none → Next x (fun t => Refused t 4 ∧ OnlyResponse s t))
    ∧ (s.group.lc.state = .test → peekRow s e = some (w, row) → w.isHot = true → w.ledgerAt row + 8 ≤ stackBytes →
      (s.eng e).mem.hbm.wf = true → Next x (fun t => Accepted t ∧ hbm t e (w.ledgerAt row) 8 = data
        ∧ (∀ a, a < w.ledgerAt row ∨ w.ledgerAt row + 8 ≤ a → (t.eng e).mem.hbm.byteAt a = (s.eng e).mem.hbm.byteAt a)
        ∧ (t.eng e).mem.presence = (s.eng e).mem.presence ∧ (t.eng e).job = (s.eng e).job ∧ Apart s t e)))

/-! ## Commits -/

/-- A commit of 1 leaves a CLEAN group alone, is refused with 0x05 while it waits, is refused with 0x06 where validation fails,
which marks the group REJECTED, and otherwise makes the group wait for its safe point or, where that has come, its shadow the
committed copy. A commit of 0 makes the shadow a copy of the committed values. A commit of 1 on every engine at once changes none
where one waits, commits none where one is rejected, and otherwise commits all (13 R364-R369).
The model's own choices and readings that it rests on: notes/assumptions/40.md. -/
def Obligations.GroupCommands : Prop :=
  (∀ (s : State) (sc : Scope) (sel : BitVec 4) (index : BitVec 16) (sub : BitVec 8) (en : Entry), Serves s sc sel → sub.toNat ≠ 0 →
    let r := (index.toNat, sub.toNat)
    findEntry r.1 r.2 = some en → en.right = .cmt → en.group ≠ 16 → en.shared = sc.isNone → mayWrite s en r = true →
    let g := en.group
    let v := groupStat s sc g
    let c := exec (.groupCommit sel index sub) s
    let d := exec (.groupDiscard sel index sub) s
    (v.mode = .clean → Next c (fun t => Accepted t ∧ OnlyResponse s t) ∧ Next d (fun t => Accepted t ∧ OnlyResponse s t))
    ∧ (v.mode = .waiting → Next c (fun t => Refused t 5 ∧ OnlyResponse s t) ∧ Next d (fun t => Refused t 5 ∧ OnlyResponse s t))
    ∧ ((v.mode = .dirty ∨ v.mode = .rejected) →
      (∀ bad, validate s sc g = some bad → Next c (fun t => Refused t 6
        ∧ groupStat t sc g = { v with mode := .rejected, reason := bad.reason, check := bad.check }
        ∧ (storeOf t sc).regs = (storeOf s sc).regs ∧ (storeOf t sc).shadow = (storeOf s sc).shadow ∧ OnlyScope s t sc))
      ∧ (validate s sc g = none → atOnce s sc g = true → g ≠ 2 → Next c (fun t => Accepted t
        ∧ groupStat t sc g = { v with mode := .clean, applied := (v.applied + 1) % 2 ^ 32, abandoned := false }
        ∧ (storeOf t sc).regs = takeRegs g (storeOf s sc).shadow (storeOf s sc).regs
        ∧ (storeOf t sc).blobs = takeBlobs g (storeOf s sc).shadowBlobs (storeOf s sc).blobs))
      ∧ (validate s sc g = none → (atOnce s sc g = false ∨ g = 2) → Next c (fun t => Accepted t
        ∧ groupStat t sc g = { v with mode := .waiting, abandoned := false }
        ∧ (storeOf t sc).regs = (storeOf s sc).regs ∧ (storeOf t sc).shadow = (storeOf s sc).shadow ∧ OnlyScope s t sc))
      ∧ Next d (fun t => Accepted t ∧ groupStat t sc g = { v with mode := .clean }
        ∧ (storeOf t sc).shadow = takeRegs g (storeOf s sc).regs (storeOf s sc).shadow
        ∧ (storeOf t sc).regs = (storeOf s sc).regs ∧ OnlyScope s t sc
        ∧ (∀ e, sc = some e → g = 2 → (t.eng e).dict.stagedMap = none))))
  ∧ (∀ (s : State) (index : BitVec 16) (sub : BitVec 8) (en : Entry), s.group.lc.blowing = none → s.group.lc.state ≠ .returned →
    presentEngines s ≠ [] →
    findEntry index.toNat sub.toNat = some en → en.right = .cmt → en.group ≠ 16 → en.shared = false →
    let g := en.group
    let c := exec (.groupCommit 0xf index sub) s
    let mode := fun (e : EngineId) => (groupStat s (some e) g).mode
    ((∃ e, present s e = true ∧ mode e = .waiting) → Next c (fun t => Refused t 5 ∧ OnlyResponse s t))
    ∧ ((∀ e, present s e = true → mode e ≠ .waiting) →
      ((∃ e, present s e = true ∧ mode e ≠ .clean ∧ validate s (some e) g ≠ none) → Next c (fun t => Refused t 6
        ∧ (∀ e, (t.eng e).dict.regs = (s.eng e).dict.regs ∧ (t.eng e).dict.shadow = (s.eng e).dict.shadow)
        ∧ (∀ e, present s e = true → (groupStat t (some e) g).mode = if mode e = .clean then .clean else .rejected)))
      ∧ ((∀ e, present s e = true → mode e = .clean ∨ validate s (some e) g = none) → Next c (fun t => Accepted t
        ∧ ∀ e, present s e = true →
          (mode e = .clean → groupStat t (some e) g = groupStat s (some e) g)
          ∧ (mode e ≠ .clean → ((atOnce s (some e) g = true ∧ g ≠ 2) → (groupStat t (some e) g).mode = .clean
              ∧ (t.eng e).dict.regs = takeRegs g (s.eng e).dict.shadow (s.eng e).dict.regs)
            ∧ ((atOnce s (some e) g = false ∨ g = 2) → (groupStat t (some e) g).mode = .waiting
              ∧ (t.eng e).dict.regs = (s.eng e).dict.regs))))))

/-! ## Jobs and maps -/

/-- A map generation that passes 03 R94 is staged, another is refused with 0x06 and its check; an imported ring is written whole or
not at all; a job blob that passes its checks is staged. *JOB_ARM* arms the engine in the staged job, at its initial step, with no
group, norm, seal, request or present pane of an earlier one, and with the filter of its windows. *JOB_END* waits for the step
boundary. At the map safe point a waiting generation that validates is the map (03 R100, 09 R248-R258, R274-R276, 13 R364).
The model's own choices and readings that it rests on: notes/assumptions/41.md. -/
def Obligations.JobCommands : Prop :=
  (∀ (s : State) (e : EngineId) (sel : BitVec 4) (segment : BitVec 16) (data bs : List Byte), Serves s (some e) sel →
    let u := noAsm s (some e)
    let staged := (s.eng e).dict.stagedMap
    (Whole s (some e) regMapStage segment data bs → bs.length ≤ 8388608 → (groupStat s (some e) 2).mode ≠ .waiting →
      let x := exec (.mapStage sel segment data) s
      (stageCheck u e bs = 0 → Next x (fun t => Accepted t ∧ (t.eng e).dict.stagedMap = some ((parseMap bs).1, bs)
        ∧ (groupStat t (some e) 2).mode = .dirty ∧ (t.eng e).job = (s.eng e).job ∧ OnlyScope s t (some e)))
      ∧ (stageCheck u e bs ≠ 0 → Next x (fun t => Refused t 6 ∧ (t.eng e).dict.stagedMap = staged
        ∧ groupStat t (some e) 2 = { groupStat s (some e) 2 with reason := 0x60, check := stageCheck u e bs }
        ∧ (t.eng e).job = (s.eng e).job ∧ OnlyScope s t (some e))))
    ∧ (Whole s (some e) regRingImport segment data bs → bs.length ≤ 262144 →
      let x := exec (.ringImport sel segment data) s
      let ok := (s.eng e).reb.enrolled = true ∧ (s.eng e).reb.sweptSince = false
        ∧ ∀ i, i < (bs.length + 255) / 256 → ringRecOk u e i (slice bs (256 * i) 256) = true
      let base := (stepRing s e).1
      (ok → base + bs.length ≤ stackBytes → (s.eng e).mem.hbm.wf = true → Next x (fun t => Accepted t
        ∧ hbm t e base bs.length = bs
        ∧ (∀ a, a < base ∨ base + bs.length ≤ a → (t.eng e).mem.hbm.byteAt a = (s.eng e).mem.hbm.byteAt a)
        ∧ (t.eng e).job = { (s.eng e).job with decided := decisionsOf t e } ∧ Apart s t e))
      ∧ (¬ ok → Next x (fun t => Refused t 6 ∧ (t.eng e).job = (s.eng e).job ∧ OnlyScope s t (some e))))
    ∧ (Whole s (some e) regJobBlob segment data bs → bs.length ≤ 8388608 → s.group.lc.state ≠ .provisioned →
      let x := exec (.jobBlob sel segment data) s
      let b := (parseBlob bs).2
      (armed s e = false → silverBusy s e = false → (parseBlob bs).1 = 0x435a4a42 → blake3 (bs.drop 64) = b.digest → 96 ≤ bs.length →
        (mapCheck u e false b.mapBytes).1 = 0 →
        (∀ old, (s.eng e).job.staged = some old → blobOlder b old = false ∧ ¬ (b.jobGen = old.jobGen ∧ b.rev = old.rev)) →
        Next x (fun t => Accepted t ∧ (t.eng e).job = { (s.eng e).job with staged := some b } ∧ OnlyScope s t (some e)))
      ∧ (armed s e = true → silverBusy s e = false → Next x (fun t => Refused t 6 ∧ (t.eng e).job = (s.eng e).job
        ∧ OnlyScope s t (some e))))
    ∧ (∀ b, Whole s (some e) regJobArm segment data bs → bs.length = 38 → s.group.lc.state ≠ .provisioned → armed s e = false →
      silverBusy s e = false → (s.eng e).job.staged = some b → leAt bs 0 4 = b.jobGen → leAt bs 4 2 = b.rev →
      slice bs 6 32 = b.digest → updateDigest u e = b.program → armBroken (withJob u e b) e = false →
      Next (exec (.jobArm sel segment data) s) (fun t => Accepted t ∧ armed t e = true ∧ mapOf t e = some b.map
        ∧ (t.eng e).job.committed = b.initialStep ∧ (t.eng e).job.memberSlot = slotIn s b.map ∧ (t.eng e).job.staged = none
        ∧ (t.eng e).job.slots = [] ∧ (t.eng e).job.norms = [] ∧ (t.eng e).job.seals = [] ∧ (t.eng e).fab.requests = []
        ∧ (t.eng e).reb.installs = [] ∧ (t.eng e).mem.presence = [] ∧ (t.eng e).mem.filter = filterOf b.map e
        ∧ stageResult t e 6 = some 1 ∧ (∀ d, d ≠ e → SameData s t d) ∧ t.tier = s.tier))
    ∧ (silverBusy s e = true → s.group.lc.state ≠ .provisioned → data.length ≤ 256 →
      Next (exec (.jobBlob sel segment data) s) (fun t => Refused t 5 ∧ OnlyResponse s t)
      ∧ Next (exec (.jobArm sel segment data) s) (fun t => Refused t 5 ∧ OnlyResponse s t))
    ∧ (armed s e = true → Next (exec (.jobEnd sel 1) s) (fun t => Accepted t ∧ (t.eng e).job = { (s.eng e).job with ending := .asked }
      ∧ (t.eng e).mem = (s.eng e).mem ∧ Apart s t e))
    ∧ (armed s e = false → Next (exec (.jobEnd sel 1) s) (fun t => Refused t 6 ∧ OnlyResponse s t)))
  ∧ (∀ (s : State) (e : EngineId) (m : StripeMap) (bs : List Byte), armed s e = true → (groupStat s (some e) 2).mode = .waiting →
    mapSafe s e = true → validate s (some e) 2 = none → (s.eng e).dict.stagedMap = some (m, bs) →
    (s.eng e).fab.mustCommit = none →
    Settled (exec (.mapSafePoint e) s) e (fun v => mapOf v e = some m ∧ (v.eng e).dict.stagedMap = none
      ∧ (groupStat v (some e) 2).mode = .clean
      ∧ counter v e cntGenCommits 0 = (counter s e cntGenCommits 0 + 1) % 2 ^ 64
      ∧ (slotIn s m ≠ 0xff → (s.eng e).job.memberSlot = 0xff → (v.eng e).job.memberSlot = slotIn s m
        ∧ (v.eng e).job.committed = reg v e regEnrolStep ∧ (v.eng e).reb.enrolled = true)
      ∧ (∀ d, d ≠ e → (v.eng d).job = (s.eng d).job ∧ (v.eng d).mem = (s.eng d).mem)))
  ∧ (∀ (s : State) (e : EngineId),
    let sent := fun (u t : State) (xs : List Sent) => (t.eng e).fab.out = (s.eng e).fab.out ++ xs
      ∧ (∀ v, v < 4 →
        let mine := fun (l : List Sent) => l.filter (fun x => x.chunk.vc.toNat == v)
        mine xs ++ mine (t.eng e).fab.egress = mine (s.eng e).fab.egress
        ∧ credit t e v + (mine xs).length = credit s e v
        ∧ (vcWeight u e v ≠ 0 → (mine xs).length = min (vcWeight u e v) (min (credit s e v) (mine (s.eng e).fab.egress).length))
        ∧ (vcWeight u e v = 0 → (∃ w, w < 4 ∧ w ≠ v ∧ wantsSlot s e w = true ∧ vcWeight u e w ≠ 0) → mine xs = [])
        ∧ (vcWeight u e v = 0 → (∀ w, w < 4 → w ≠ v → wantsSlot s e w = false) →
          (mine xs).length = min 1 (min (credit s e v) (mine (s.eng e).fab.egress).length)))
      ∧ (t.eng e).mem = (s.eng e).mem ∧ (t.eng e).job = (s.eng e).job ∧ Local s t e
    ((groupStat s (some e) 1).mode ≠ .waiting → Next (exec (.vcArbitrationRound e) s) (fun t => ∃ xs, sent s t xs ∧ Apart s t e))
    ∧ ((groupStat s (some e) 1).mode = .waiting → Next (exec (.vcArbitrationRound e) s) (fun t => (∃ xs, sent t t xs)
      ∧ (groupStat t (some e) 1).mode = .clean
      ∧ (t.eng e).dict.regs = takeRegs 1 (s.eng e).dict.shadow (s.eng e).dict.regs)))

/-! ## Resets -/

namespace Sys2Proof.Claims

open Sys2Proof Sys2Proof.Machine

/-- A reset of an engine has begun: nothing issues, what waited in its streams has completed, and its stack is as it was; an
absorbing one has dropped its coded writes, its installs and a staged generation (15 R401-R403, R415). -/
def ResetBegun (s v : State) (e : EngineId) (r : ResetRun) (level source cause : Nat) : Prop :=
  (v.eng e).bring.rst = some r ∧ (v.eng e).bring.lastReset = lastResetWord s level r.absorb source cause
  ∧ counter v e cntResets 0 = (counter s e cntResets 0 + 1) % 2 ^ 64
  ∧ (v.eng e).iss.queues = [] ∧ (v.eng e).mem.hbm = (s.eng e).mem.hbm
  ∧ (v.eng e).bring.position = (s.eng e).bring.position
  ∧ (r.absorb = true → (v.eng e).mem.writes = (s.eng e).mem.writes.filter (!·.accepted) ∧ (v.eng e).reb.installs = [] ∧ (v.eng e).snap.snap = none)

end Sys2Proof.Claims

/-- RST_REQ, and *RESET_REQUEST* of the dictionary, begin a reset at their level: an engine's stops issue; one for the group or the
chip resets every engine; a facet's stops what it begins. An absorbing request turns a draining reset into absorb. A drain that
has not finished in time turns into absorb too (15 R400-R406, R415).
The model's own choices and readings that it rests on: notes/assumptions/42.md. -/
def Obligations.ResetRequests : Prop :=
  (∀ (s : State) (e : EngineId) (f : Fin 8) (absorb : Bool),
    ((s.eng e).bring.rst = none → SettledAll (exec (.rstReq .engine e f absorb) s) (fun v =>
      ResetBegun s v e { absorb := absorb, done := false, group := false, signal := true, fault := false } 1 sourceSignal 0))
    ∧ (∀ old, (s.eng e).bring.rst = some old → old.done = false → SettledAll (exec (.rstReq .engine e f absorb) s) (fun v =>
      (v.eng e).bring.rst = some { old with absorb := old.absorb || absorb }
      ∧ (v.eng e).bring.lastReset = (s.eng e).bring.lastReset))
    ∧ (∀ level, (level = ResetLevel.group ∨ level = .chip) → SettledAll (exec (.rstReq level e f absorb) s) (fun v =>
      (∃ g, v.group.coord.groupRst = some g ∧ (absorb = true → g.absorb = true) ∧ (level = .chip → g.chip = true))
      ∧ ∀ d, (v.eng d).bring.rst.isSome = true))
    ∧ (present s e = true → (s.eng e).bring.rst = none → bit (facetMask s) f.val = true → (facetOf s e f.val).inReset = false →
      SettledAll (exec (.rstReq .facet e f absorb) s) (fun v => (facetOf v e f.val).inReset = true
        ∧ (facetOf v e f.val).absorb = absorb ∧ (facetOf v e f.val).rstDone = false
        ∧ counter v e cntFacetResets 0 = (counter s e cntFacetResets 0 + 1) % 2 ^ 64
        ∧ (v.eng e).bring.lastReset = lastResetWord s 0 absorb sourceSignal 0)))
  ∧ (∀ (s : State) (e : EngineId) (sel : BitVec 4) (absorb : Bool) (facet : BitVec 3), s.group.lc.blowing = none →
    sel.toNat = e.val →
    ((present s e = true ∨ ((s.eng e).bring.position = .isolated ∧ s.group.lc.state ≠ .returned)) → (s.eng e).bring.rst = none →
      Next (exec (.resetRequestEngine sel absorb) s) (fun t => Accepted t
        ∧ ResetBegun s t e { absorb := absorb, done := false, group := false, signal := false, fault := false } 1 sourceDict 0))
    ∧ (present s e = true → (s.eng e).bring.rst = none → bit (facetMask s) facet.toNat = true →
      (facetOf s e facet.toNat).inReset = false →
      Next (exec (.resetRequestFacet sel absorb facet) s) (fun t => Accepted t
        ∧ (facetOf t e facet.toNat).inReset = true ∧ (facetOf t e facet.toNat).absorb = absorb
        ∧ counter t e cntFacetResets 0 = (counter s e cntFacetResets 0 + 1) % 2 ^ 64
        ∧ (t.eng e).bring.lastReset = lastResetWord s 0 absorb sourceDict 0)))
  ∧ (∀ (s : State) (absorb : Bool), s.group.lc.blowing = none →
    Next (exec (.resetRequestGroup 0xe absorb) s) (fun t => Accepted t
      ∧ (∃ g, t.group.coord.groupRst = some g ∧ (absorb = true → g.absorb = true)) ∧ ∀ d, (t.eng d).bring.rst.isSome = true))
  ∧ (∀ (s : State) (e : EngineId),
    (∀ r, (s.eng e).bring.rst = some r → r.done = false → r.absorb = false → Next (exec (.drainTimeout e) s) (fun t =>
      (t.eng e).bring.rst = some { r with absorb := true } ∧ (t.eng e).mem.writes = (s.eng e).mem.writes.filter (!·.accepted) ∧ (t.eng e).reb.installs = []
      ∧ (t.eng e).snap.snap = none ∧ (t.eng e).mem.hbm = (s.eng e).mem.hbm
      ∧ counter t e cntDrainsConverted 0 = (counter s e cntDrainsConverted 0 + 1) % 2 ^ 64))
    ∧ ((s.eng e).bring.rst = none → Next (exec (.drainTimeout e) s) (fun t =>
      (∀ f ∈ facetIds s, facetDrains s e f = true → (facetOf t e f).inReset = true ∧ (facetOf t e f).absorb = true)
      ∧ counter t e cntDrainsConverted 0 =
          (counter s e cntDrainsConverted 0 + ((facetIds s).filter (facetDrains s e)).length) % 2 ^ 64)))

/-- RST_DONE ends an engine's reset once nothing of it is in flight: it is absent, in reset or, after a fault, isolated; its job,
dictionary, requests and operations are gone, its committed step, its arrival counters and its stack remain, and so do the writes held at
its filter where it comes back into its job. A group's ends once
every engine is quiet, and takes the arrival counters, the events, the detectors and the service tier with it, but no tier byte. A
facet's clears its coefficients; once RST_REQ has fallen, or at once for a request of the dictionary, the facet is tested. A lost
clock or a lost island is an engine fault, a lost clock of the group domains a reset of the group (01 R58-R60, 15 R393, R400,
R405, R407, R412).
The model's own choices and readings that it rests on: notes/assumptions/36.md, notes/assumptions/42.md. -/
def Obligations.ResetsEnd : Prop :=
  (∀ (s : State) (e : EngineId) (f : Fin 8) (r : ResetRun), (s.eng e).bring.rst = some r → r.done = false → r.group = false →
    quiet s e = true → Next (exec (.rstDone .engine e f) s) (fun t =>
      (t.eng e).bring.position = (if r.fault = true then .isolated else if (s.eng e).bring.islandGood = true then .inReset else .unpowered) ∧ present t e = false
      ∧ (t.eng e).bring.rst = (if r.signal = true ∧ r.fault = false then some { r with done := true } else none)
      ∧ (t.eng e).job.job = none ∧ (t.eng e).job.committed = (s.eng e).job.committed
      ∧ (t.eng e).iss.arrivals = (s.eng e).iss.arrivals ∧ (t.eng e).iss.ops = [] ∧ (t.eng e).fab.requests = []
      ∧ (t.eng e).fab.held = [] ∧ (t.eng e).dict.regs = [] ∧ (t.eng e).tier = (s.eng e).tier
      ∧ (t.eng e).mem.writes = (if ((s.eng e).job.job.isSome = true ∨ (s.eng e).bring.warm = true) ∧ r.fault = false then (s.eng e).mem.writes else [])
      ∧ ((∀ p ∈ (s.eng e).job.slots, p.2.state = .free) → (t.eng e).mem.hbm = (s.eng e).mem.hbm) ∧ Local s t e))
  ∧ (∀ (s : State) (level : ResetLevel) (e : EngineId) (f : Fin 8) (g : GroupReset), (level = .group ∨ level = .chip) →
    s.group.coord.groupRst = some g → g.done = false → (∀ d, quiet s d = true) →
    Next (exec (.rstDone level e f) s) (fun t =>
      (∀ d, (t.eng d).bring.position = (if (s.eng d).bring.position = .fusedOff ∧ g.chip = false then .fusedOff
          else if (s.eng d).bring.islandGood = true then .inReset else .unpowered)
        ∧ (t.eng d).bring.rst = none ∧ (t.eng d).iss.arrivals = [] ∧ (t.eng d).iss.ops = [] ∧ (t.eng d).job.job = none)
      ∧ t.stepValid = false ∧ t.group.ev.queue = [] ∧ t.group.health = Healths.init
      ∧ t.group.dict.images = (if g.chip = true then [] else s.group.dict.images)
      ∧ t.group.lc.state = (if s.group.lc.state = .service then .operate else s.group.lc.state)
      ∧ t.group.lc.authFails = 0 ∧ t.group.lc.lockout = false
      ∧ t.group.coord.groupRst = (if g.signal = true then some { g with done := true } else none) ∧ t.tier = s.tier))
  ∧ (∀ (s : State) (e : EngineId) (f : Fin 8), let x := facetOf s e f.val
    let cleared := { x with rstDone := true, cells := [], filled := none, activity := 0, current := 0, lastAct := 0, autofill := false }
    let dict := bits (s.eng e).bring.lastReset.toNat 12 11 = sourceDict ∧ x.powered = true
    let tested := fun (v : State) => (facetOf v e f.val).inReset = false ∧ (facetOf v e f.val).rstDone = false
      ∧ (Config.selfTestPasses s.freeCount = false → f.val ∈ (v.eng e).bring.facetFaults) ∧ v.freeCount = s.freeCount + 1
    (x.inReset = true → x.rstDone = false → x.active = none → x.laneActive = none →
      (¬ dict → Settled (exec (.rstDone .facet e f) s) e (fun v => facetOf v e f.val = cleared ∧ (v.eng e).mem = (s.eng e).mem
        ∧ Local s v e))
      ∧ (dict → Settled (exec (.rstDone .facet e f) s) e (fun v => tested v ∧ (x.queue = [] →
        ((isFold s e f.val = false ∨ armed s e = false) → (facetOf v e f.val).cells = []) ∧ Local s v e))))
    ∧ (x.inReset = true → x.rstDone = true → Settled (exec (.rstReqRelease .facet e f) s) e (fun v => tested v
      ∧ (v.eng e).mem = (s.eng e).mem ∧ (x.queue = [] → Local s v e)))
    ∧ (∀ r, (s.eng e).bring.rst = some r → Settled (exec (.rstReqRelease .engine e f) s) e (fun v =>
      (v.eng e).bring = { (s.eng e).bring with rst := if r.done then none else some { r with signal := false } }
      ∧ (v.eng e).mem = (s.eng e).mem ∧ Local s v e))
    ∧ (∀ level g, (level = ResetLevel.group ∨ level = .chip) → s.group.coord.groupRst = some g →
      Settled (exec (.rstReqRelease level e f) s) e (fun v =>
        v.group.coord = { s.group.coord with groupRst := if g.done then none else some { g with signal := false } }
        ∧ v.engines = s.engines ∧ v.tier = s.tier)))
  ∧ (∀ (s : State) (d : Fin 40), s.group.coord.clocks.contains d.val = true → let e := engineOf (d.val / 3)
    (d.val < 36 → present s e = false → Next (exec (.clockLost d) s) (fun t => d.val ∉ t.group.coord.clocks ∧ t.engines = s.engines
      ∧ t.group.ev = s.group.ev))
    ∧ (d.val < 36 → present s e = true → (s.eng e).bring.fault = none →
      (s.eng e).bring.facetFaults = [] → (s.eng e).bring.rst = none →
      Next (exec (.clockLost d) s) (fun t => d.val ∉ t.group.coord.clocks
        ∧ ResetBegun s t e { absorb := true, done := false, group := false, signal := false, fault := true } 1 sourceFault causeClock))
    ∧ (36 ≤ d.val → d.val < 39 → Next (exec (.clockLost d) s) (fun t =>
      (∃ g, t.group.coord.groupRst = some g ∧ g.absorb = true) ∧ ∀ d, (t.eng d).bring.rst.isSome = true))
    ∧ (d.val = 39 → Next (exec (.clockLost d) s) (fun t => t.group.coord.clocks = s.group.coord.clocks.filter (· != 39)
      ∧ t.engines = s.engines ∧ t.tier = s.tier)))
  ∧ (∀ (s : State) (e : EngineId), (s.eng e).bring.islandGood = true → present s e = true →
    (s.eng e).bring.fault = none → (s.eng e).bring.facetFaults = [] →
    (s.eng e).bring.rst = none →
    Next (exec (.powerLost e) s) (fun t => (t.eng e).bring.islandGood = false ∧ (t.eng e).bring.isoEn = true
      ∧ ResetBegun s t e { absorb := true, done := false, group := false, signal := false, fault := true } 1 sourceFault causePower))

/-! ## Bring-up -/

/-- Power-on leaves nothing volatile. Each stage of an engine's bring-up, where it may run, reports whether it passed, passed with a
unit retired or repaired, failed or waits; the dictionary image makes the position present in a cold bring-up, and stage 6 re-arms
an engine that was reset within its job at the committed step of the group. A peer that stays silent is given up in the end. An
instrument that the life-cycle state opens shows what it reads or whether a test passed, a free value; a closed one does nothing
(01 R53, R60, 13 R371, 15 R408-R414, 16 R417, R419).
The model's own choices and readings that it rests on: notes/assumptions/3.md, notes/assumptions/26.md, notes/assumptions/42.md. -/
def Obligations.BringUpStages : Prop :=
  (∀ s : State, Next (exec .powerOn s) (fun t => t.pending = s.pending ∧ t.time = s.time ∧ t.tier = s.tier ∧ t.stepValid = false
    ∧ (∀ e, (t.eng e).bring.position = (if enginePresent s e = true then .unpowered else .fusedOff)
      ∧ (t.eng e).bring.islandReq = enginePresent s e ∧ (t.eng e).mem = Stack.init ∧ (t.eng e).job = JobSt.init
      ∧ (t.eng e).iss = Issue.init ∧ (t.eng e).dict = Dict.init)
    ∧ t.group.lc.fuses = s.group.lc.fuses ∧ t.group.lc.lcFuses = s.group.lc.lcFuses
    ∧ t.group.lc.state = (if s.group.lc.state = .service then .operate else s.group.lc.state) ∧ t.group.ev = Events.init))
  ∧ (∀ (s : State) (e : EngineId),
    (stageOpen s e 0 = true → (s.eng e).bring.islandGood = true → (∀ f ∈ liveFacets s e, (facetOf s e f).powered = true) →
      Next (exec (.stagePowerAndClocks e) s) (fun t => stageResult t e 0 = some 1 ∧ (t.eng e).bring.clkEn = true
        ∧ (t.eng e).bring.isoEn = false ∧ (∀ i, i < 3 → 3 * e.val + i ∈ t.group.coord.clocks)
        ∧ (t.eng e).mem = (s.eng e).mem ∧ (t.eng e).iss = (s.eng e).iss ∧ Local s t e))
    ∧ (∀ fuses lcFuses failed, stageOpen s e 1 = true →
      let ok := fusesValid fuses.toNat lcFuses.toNat
      let n := failed.eraseDups.length
      Next (exec (.stageFusesAndSram e fuses lcFuses failed) s) (fun t =>
        stageResult t e 1 = some (if ok = false then 3 else if n = 0 then 1 else if n = 1 then 2 else 3)
        ∧ t.group.lc.fusesOk = ok ∧ t.group.lc.fuses = fuses ∧ t.group.lc.lcFuses = lcFuses
        ∧ (ok = true → t.group.lc.state = lcOf s.group.lc.state lcFuses.toNat ∧ (t.eng e).lou.retired = failed.eraseDups.take 1
          ∧ ((s.eng e).bring.form1 = false → (t.eng e).dict.counters = [] ∧ t.group.lc.challenges = 1))
        ∧ (∀ d, (t.eng d).mem = (s.eng d).mem) ∧ t.tier = s.tier))
    ∧ (∀ reads repairs, stageOpen s e 2 = true → s.group.lc.fusesOk = true →
      let bad := failingRows s reads
      let outside := ∃ r ∈ reads, r.status = some 3
      let silent := ∃ r ∈ reads, r.status = none
      let good := ∀ i, i < bad.length → ∃ a : RowRepair, repairs[i]? = some a ∧ a.spares.isSome = true ∧ a.retest.any testBad = false
      Next (exec (.stageMemoryPath e reads repairs) s) (fun t =>
        ((s.eng e).bring.form1 = true → stageResult t e 2 = some (if silent ∨ outside then 3 else 1)
          ∧ (s.group.lc.state ≠ .returned → (t.eng e).mem.hbm = (s.eng e).mem.hbm))
        ∧ ((s.eng e).bring.form1 = false → (t.eng e).mem.hbm = []
          ∧ ((¬ good ∨ outside) → stageResult t e 2 = some 3)
          ∧ (good → ¬ outside → stageResult t e 2 = some (if bad = [] then 1 else 2))
          ∧ (good → (t.eng e).mem.repairs = (s.eng e).mem.repairs ++ bad))
        ∧ (t.eng e).mem.presence = [] ∧ (t.eng e).job = (s.eng e).job ∧ Apart s t e ∧ t.group = s.group))
    ∧ (∀ i : DictImage, stageOpen s e 3 = true → s.group.lc.state ≠ .returned →
      (i.format ≠ reg s e regDictFormat → Next (exec (.stageDictionaryImage e i) s) (fun t => stageResult t e 3 = some 3
        ∧ (t.eng e).dict = (s.eng e).dict ∧ (t.eng e).bring.position = (s.eng e).bring.position ∧ Apart s t e))
      ∧ (i.format = reg s e regDictFormat →
        (∀ p ∈ imageGroups e i, validate (loadImage s e i) p.1 p.2 = none) →
        Next (exec (.stageDictionaryImage e i) s) (fun t => stageResult t e 3 = some 1
          ∧ (t.eng e).dict.regs = i.words.filter (fun p => !keyShared (p.1.1, p.1.2.1)) ∧ (t.eng e).dict.shadow = (t.eng e).dict.regs
          ∧ (t.eng e).dict.groups = [] ∧ AList.get? t.group.dict.images e.val = some i
          ∧ (t.eng e).bring.position =
              (if (s.eng e).bring.form1 = true ∧ (s.eng e).bring.warm = true then (s.eng e).bring.position else .present)
          ∧ (t.eng e).mem = (s.eng e).mem ∧ Local s t e)))
    ∧ (stageOpen s e 4 = true → s.group.lc.state ≠ .returned → (s.eng e).bring.peers = [] →
      ((s.eng e).job.staged = none → (AList.get? s.group.dict.images e.val).bind (·.job) = none →
        Next (exec (.stageStripeMapAndPeers e) s) (fun t => stageResult t e 4 = some 0 ∧ (t.eng e).job = (s.eng e).job
          ∧ (t.eng e).fab = (s.eng e).fab ∧ Apart s t e))
      ∧ (∀ b, (s.eng e).job.staged = some b →
        ((s.eng e).bring.form1 = true → Next (exec (.stageStripeMapAndPeers e) s) (fun t => stageResult t e 4 = some 1
          ∧ (t.eng e).job = (s.eng e).job ∧ (t.eng e).fab = (s.eng e).fab ∧ Apart s t e))
        ∧ ((s.eng e).bring.form1 = false → Next (exec (.stageStripeMapAndPeers e) s) (fun t =>
          (t.eng e).bring.peers = peersIn s b ∧ (peersIn s b = [] → stageResult t e 4 = some 1)
          ∧ (∃ xs, (t.eng e).fab.egress = (s.eng e).fab.egress ++ xs ∧ xs.map (·.dest) = (peersIn s b).map (fun p => [p])
            ∧ ∀ x ∈ xs, x.chunk.k = kindMirrorReq ∧ x.chunk.jobId = b.map.jobId ∧ x.chunk.mapGen = b.map.gen)
          ∧ (t.eng e).mem = (s.eng e).mem ∧ (t.eng e).job = (s.eng e).job ∧ Local s t e))))
    ∧ (∀ chip : BitVec 13, (s.eng e).bring.peers.contains chip.toNat = true →
      Next (exec (.peerRetry e chip true) s) (fun t => (t.eng e).bring.peers = (s.eng e).bring.peers.filter (· != chip.toNat)
        ∧ (t.eng e).bring.unreach = (s.eng e).bring.unreach + 1
        ∧ ((t.eng e).bring.peers = [] → stageResult t e 4 = some 3)
        ∧ (t.eng e).mem = (s.eng e).mem ∧ (t.eng e).fab = (s.eng e).fab ∧ Apart s t e)
      ∧ ∀ b, (s.eng e).job.staged = some b → Next (exec (.peerRetry e chip false) s) (fun t =>
        (t.eng e).bring = (s.eng e).bring
        ∧ (∃ x : Sent, (t.eng e).fab.egress = (s.eng e).fab.egress ++ [x] ∧ x.dest = [chip.toNat] ∧ x.chunk.k = kindMirrorReq)
        ∧ (t.eng e).mem = (s.eng e).mem ∧ Local s t e))
    ∧ (∀ (failed : BitVec 8) (portOk : Bool), (s.eng e).bring.rst = none → s.group.coord.groupRst = none →
      (stagePassed s e 4 = true ∨ stageResult s e 4 = some 0) → (s.eng e).bring.kat = false → stageResult s e 5 ≠ some 3 →
      s.group.lc.state ≠ .returned →
      let bad := fun (f : Nat) => f ∈ facetIds s ∧ bit failed.toNat f = true
      Next (exec (.stageKnownAnswerTest e failed portOk) s) (fun t =>
        let good := portOk = true ∧ noFacets t e = false
        (good → (t.eng e).bring.kat = true
          ∧ ((∀ f, ¬ bad f) → stageResult t e 5 = some 1) ∧ ((∃ f, bad f) → stageResult t e 5 = some 2))
        ∧ (¬ good → (t.eng e).bring.kat = false ∧ stageResult t e 5 = some 3)
        ∧ (∀ f, f < 8 → (bad f → facetOf t e f = { facetOf s e f with isolated := true, powered := false, requested := false })
          ∧ (¬ bad f → facetOf t e f = facetOf s e f))
        ∧ (t.eng e).mem = (s.eng e).mem ∧ Apart s t e ∧ t.group = s.group))
    ∧ (∀ j, (s.eng e).job.staged = some j → (s.eng e).bring.form1 = true → (s.eng e).bring.warm = true → (s.eng e).bring.kat = true →
      stageOpen s e 6 = true → stagePassed s e 4 = true →
      Settled (exec (.stageRearm e) s) e (fun v => armed v e = true ∧ mapOf v e = some (newestMap s e j).1
        ∧ (v.eng e).job.committed = s.group.coord.stepC ∧ (v.eng e).fab.mustCommit = some (newestMap s e j).1.gen
        ∧ (v.eng e).mem.filter = filterOf (newestMap s e j).1 e ∧ (v.eng e).mem.hbm = (s.eng e).mem.hbm
        ∧ (v.eng e).bring.position = .present ∧ (v.eng e).bring.warm = false ∧ stageResult v e 6 = some 1 ∧ Local s v e)))
  ∧ (∀ (s : State) (e : EngineId) (i : Instrument),
    (instrumentOpen s i = false → exec (.ieee1687Access e i) s = .next s)
    ∧ (instrumentOpen s i = true → Next (exec (.ieee1687Access e i) s) (fun t =>
      (t.eng e).mem = (s.eng e).mem ∧ (t.eng e).iss = (s.eng e).iss ∧ (t.eng e).job = (s.eng e).job ∧ Apart s t e ∧ t.group = s.group
      ∧ match i with
        | .sramSelfTest _ _ | .knownAnswer _ => ∃ b, (b = 0 ∨ b = 1) ∧ (t.eng e).lou.testOut = (s.eng e).lou.testOut ++ [[b]]
        | .trace => ∃ bs : List Byte, bs.length = 64 ∧ (t.eng e).lou.testOut = (s.eng e).lou.testOut ++ [bs]
        | .scan isl c => ∃ bs : List Byte, bs.length = 3 ∧ (t.eng e).lou.testOut = (s.eng e).lou.testOut ++ [bs]
            ∧ ∀ f : Fin 8, isl = .facet f → c < 192 → bs = leBytes ((AList.getD (facetOf s e f.val).cells c 0).toNat) 3
        | .fuseReader => (t.eng e).lou.testOut = (s.eng e).lou.testOut ++ [leBytes s.group.lc.fuses.toNat 8]
        | .sramFlipMask st w off mask => (t.eng e).lou.testOut = (s.eng e).lou.testOut
            ∧ wordErrors t e st w = ((flipErrors off mask.toNat).foldl (fun es p => AList.set es p.1 (AList.getD es p.1 0 ^^^ p.2))
                (wordErrors s e st w)).filter (fun p => p.2 != 0)
            ∧ (∀ st' w', (st' ≠ st ∨ w' ≠ w) → wordErrors t e st' w' = wordErrors s e st' w'))))

/-! ## The machine -/

/-- A step with a command at the front of the queue is that command on the state with the queue's rest, whatever it answers. -/
def Obligations.StepRunsFrontCommand : Prop :=
  ∀ (s : State) (c : Instr) (rest : List Instr), step { s with pending := c :: rest } = exec c { s with pending := rest }

/-- Right after reset every position is in reset, no engine is present, no command waits, every arrival counter, event and
operation is clear and no stack or tier byte is listed; an idle step only counts the time base on. The idle step is the model's
choice (notes/assumptions/6.md), an empty memory its reading of contents that the spec leaves undefined (notes/assumptions/2.md). -/
def Obligations.ResetState : Prop :=
  let r := State.reset
  (∀ e, (r.eng e).bring.position = .inReset ∧ present r e = false ∧ armed r e = false ∧ (r.eng e).iss.ops = []
    ∧ (∀ i, arrival r e i = Arrival.zero) ∧ (r.eng e).mem.hbm.wf = true ∧ (r.eng e).mem.filter = []
    ∧ (r.eng e).job.memberSlot = 0xff ∧ ∀ g, groupStat r (some e) g = GroupStat.init)
  ∧ r.pending = [] ∧ r.stepValid = false ∧ r.group.ev.queue = [] ∧ r.tier.wf = true ∧ Numbered r
  ∧ (∀ s : State, s.pending = [] → step s = .next { s with time := s.time + 1 })

/-- Every byte store stays in its canonical form, addresses strictly rising and no zero byte listed, through every step: the stack of
every engine, the resident accumulation tiles and the board tier. The form is the model's own (notes/assumptions/2.md); with it, equal
contents are equal data. -/
def Obligations.StepKeepsMemoryCanonical : Prop :=
  let Inv := fun (s : State) => s.tier.wf = true ∧ ∀ e, (s.eng e).mem.hbm.wf = true ∧ (s.eng e).job.accCache.wf = true
  ∀ s t : State, Inv s → step s = .next t → Inv t

/-! ## The code -/

/-- The arithmetic of the code. The product is the polynomial product reduced by 0x11D: it distributes over XOR, commutes and
associates; 0x01 is its unit, doubling shifts and reduces by 0x11D; the inverse of a non-zero element is its power 254, and its
product with the element is 0x01. -/
def Obligations.FieldArithmetic : Prop :=
  (∀ a b c : Byte, gfMul a (b ^^^ c) = gfMul a b ^^^ gfMul a c) ∧ (∀ a b : Byte, gfMul a b = gfMul b a)
  ∧ (∀ a b c : Byte, gfMul (gfMul a b) c = gfMul a (gfMul b c)) ∧ (∀ a : Byte, gfMul a 1 = a)
  ∧ (∀ a : Byte, gfMul a 2 = (if a.msb = true then a <<< 1 ^^^ 0x1d else a <<< 1))
  ∧ (∀ a : Byte, gfInv a = gfPow a 254 ∧ (a ≠ 0 → gfMul a (gfInv a) = 1)) ∧ gfInv 0 = 0

/-- What a decode or a rebuild computes is what was lost: for every geometry the limits allow, every set of erased columns for which
the engine finds survivors, every erased column and all data, the decode row over the surviving columns gives that column's byte
(03 R81, R82, 04 R110-R113). -/
def Obligations.DecodeRecovers : Prop :=
  ∀ (o : Geo) (erased target : Nat) (cols : List Nat) (cs : List Byte) (x : Nat → Byte),
    o.ok o.n = true → target < o.n → bit erased target = true → survivors o erased = some cols → decodeRow o erased target = some cs →
    let column := fun (c : Nat) => ((List.range o.k).map (fun j => gfMul (o.at c j) (x j))).foldl (· ^^^ ·) 0
    ((cols.zip cs).map (fun p => gfMul p.2 (column p.1))).foldl (· ^^^ ·) 0 = column target

/-! ## Single rules -/

/-- Sub-index 0 of an index that holds entries reads as one byte, the highest sub-index in use there, and is not written; an index or
a sub-index with no entry is answered 0x01 (13 R356). -/
def Obligations.SubIndexZero : Prop :=
  ∀ (s : State) (sc : Scope) (t : Txn), Serves s sc t.engineSel →
    let i := t.index.toNat
    let x := exec (.registerWrite t) s
    (t.sub = 0 → (i = 0x1000 ∨ ∃ m en, m < 256 ∧ findEntry i m = some en ∧ en.shared = sc.isNone) →
      (t.op = 0 → t.length = 1 → t.segment = 0 → Next x (fun u => OnlyResponse s u ∧ ∃ n, n < 256
        ∧ u.group.dict.resp = some { code := 0, data := [BitVec.ofNat 8 n], segment := 0 }
        ∧ (findEntry i n).isSome = true ∧ ∀ m, n < m → m < 256 → findEntry i m = none))
      ∧ (isWrite t = true → Next x (fun u => Refused u 2 ∧ OnlyResponse s u)))
    ∧ ((∀ m, m < 256 → findEntry i m = none) → Next x (fun u => Refused u 1 ∧ OnlyResponse s u))
    ∧ (t.sub ≠ 0 → findEntry i t.sub.toNat = none → Next x (fun u => Refused u 1 ∧ OnlyResponse s u))

/-- *AUTH_CHALLENGE* is the time base at its creation, the count of challenges since bring-up and zeros; a cold bring-up and every
complete *AUTH_REQUEST*, whatever its outcome, create a new one, and a read leaves it (16 R423). -/
def Obligations.ChallengeRule : Prop :=
  (∀ (s : State) (t : Txn), s.group.lc.blowing = none → t.op = 3 → t.engineSel = 0xe → t.index = 0xc010 → t.sub = 1 → t.segment = 0 →
    t.length = 16 → Next (exec (.registerWrite t) s) (fun u => OnlyResponse s u
      ∧ u.group.dict.resp = some {
        code := 0, segment := 0
        data := leBytes s.group.lc.challengeT.toNat 8 ++ leBytes s.group.lc.challenges 4 ++ zeros 4 }))
  ∧ (∀ (s : State) (e : EngineId) (fuses lcFuses : BitVec 64) (failed : List (Nat × Nat)), stageOpen s e 1 = true →
    (s.eng e).bring.form1 = false → fusesValid fuses.toNat lcFuses.toNat = true →
    Next (exec (.stageFusesAndSram e fuses lcFuses failed) s) (fun u =>
      u.group.lc.challengeT = s.time ∧ u.group.lc.challenges = 1))
  ∧ (∀ (s : State) (c : Instr) (data : List Byte), (c = .authServiceUnlock 0x8000 data ∨ c = .authReturn 0x8000 data) →
    s.group.lc.blowing = none → data ≠ [] → data.length ≤ 256 → Next (exec c s) (fun u =>
      u.group.lc.challengeT = s.time ∧ u.group.lc.challenges = (s.group.lc.challenges + 1) % 2 ^ 32))

/-- An agent's write into a pane that holds parity in its row is not performed: no byte of the stack changes, it completes with 0x60,
and a record is raised (01 R24). -/
def Obligations.ParityWriteRefused : Prop :=
  ∀ (s : State) (e : EngineId) (granule : BitVec 30) (be : List (BitVec 64)) (data : List Byte) (w : Window) (r : Nat),
    be ≠ [] → granule.toNat % 64 + be.length ≤ 64 → present s e = true → runPrivate s e granule.toNat be.length = false → windowAt s e (64 * granule.toNat) = some (w, r) →
    holdsData s e r = false →
    Settled (exec (.codedWrite e granule be data) s) e (fun v => (v.eng e).mem.hbm = (s.eng e).mem.hbm
      ∧ (v.eng e).mem.agentOut = (s.eng e).mem.agentOut ++ [{ granule := granule.toNat, write := true, status := 0x60, data := [] }]
      ∧ v.group.ev = (raise s e evCodedWriteRefused 2 granule.toNat).group.ev
      ∧ (s.group.ev.queue.length < 256 → ∃ x : EventRec, v.group.ev.queue = s.group.ev.queue ++ [x]
        ∧ x.code = evCodedWriteRefused ∧ x.engine = e.val ∧ x.severity ≠ 0))

/-- The event queue holds 256 records. Offered to a full one, a record of severity 0 to 2 is dropped and counted; a fatal one takes
the place of the newest queued record of severity 0, which counts as dropped, or is dropped itself where none is queued. Once a
record has left, one record carries the number dropped before any other is queued (01 R45). A record is suppressed only where it is
one of severity 0 and they are not enabled (14 R377). -/
def Obligations.EventQueueRule : Prop :=
  (∀ (s : State) (r : EventRec), s.group.ev.queue.length = 256 →
    let full := fun (t : State) => t.group.ev.dropped = s.group.ev.dropped + 1
      ∧ gcounter t cntEventOverflows = (gcounter s cntEventOverflows + 1) % 2 ^ 64 ∧ t.engines = s.engines ∧ t.tier = s.tier
    (r.severity ≠ 3 → (r.severity ≠ 0 ∨ greg s regEventInfoEnable ≠ 0 ∨ r.code = evConfigApplied) →
      full (offer s r) ∧ (offer s r).group.ev.queue = s.group.ev.queue)
    ∧ (r.severity = 3 → (∀ q ∈ s.group.ev.queue, q.severity ≠ 0) → full (offer s r) ∧ (offer s r).group.ev.queue = s.group.ev.queue)
    ∧ (∀ older newer q, r.severity = 3 → s.group.ev.queue = older ++ q :: newer → q.severity = 0 → (∀ x ∈ newer, x.severity ≠ 0) →
      full (offer s r) ∧ (offer s r).group.ev.queue = older ++ newer ++ [r]))
  ∧ (∀ (s : State) (r : EventRec), s.group.ev.queue.length < 256 →
    (r.severity ≠ 0 ∨ greg s regEventInfoEnable ≠ 0 ∨ r.code = evConfigApplied) →
    (offer s r).group.ev.queue = s.group.ev.queue ++ [r] ∧ (offer s r).group.ev.dropped = s.group.ev.dropped
    ∧ gcounter (offer s r) cntEventsRaised = (gcounter s cntEventsRaised + 1) % 2 ^ 64)
  ∧ (∀ (s : State) (r : EventRec), r.severity = 0 → greg s regEventInfoEnable = 0 → r.code ≠ evConfigApplied →
    (offer s r).group.ev = s.group.ev ∧ (offer s r).engines = s.engines
    ∧ gcounter (offer s r) cntEventsSuppressed = (gcounter s cntEventsSuppressed + 1) % 2 ^ 64)
end

