-- ==== Sys2Proof/Laws/State.lean ====
section
/-!
SUPPORT. What every update of the state does to every field: later proofs never unfold a record update.
-/

namespace Sys2Proof.Machine

open Sys2Proof

/-! ## One engine of the state -/

@[simp] theorem eng_modEng_self (s : State) (e : EngineId) (f : Engine → Engine) : (s.modEng e f).eng e = f (s.eng e) := by
  simp [State.modEng, State.eng]

theorem eng_modEng_other (s : State) (e d : EngineId) (f : Engine → Engine) (h : d ≠ e) : (s.modEng e f).eng d = s.eng d := by
  have : (e : Nat) ≠ d := fun c => h (Fin.ext c.symm)
  simp [State.modEng, State.eng, Vector.getElem_set_ne _ _ this]

@[simp] theorem modEng_pending (s : State) (e : EngineId) (f : Engine → Engine) : (s.modEng e f).pending = s.pending := rfl
@[simp] theorem modEng_time (s : State) (e : EngineId) (f : Engine → Engine) : (s.modEng e f).time = s.time := rfl
@[simp] theorem modEng_stepValue (s : State) (e : EngineId) (f : Engine → Engine) : (s.modEng e f).stepValue = s.stepValue := rfl
@[simp] theorem modEng_stepValid (s : State) (e : EngineId) (f : Engine → Engine) : (s.modEng e f).stepValid = s.stepValid := rfl
@[simp] theorem modEng_group (s : State) (e : EngineId) (f : Engine → Engine) : (s.modEng e f).group = s.group := rfl
@[simp] theorem modEng_tier (s : State) (e : EngineId) (f : Engine → Engine) : (s.modEng e f).tier = s.tier := rfl
@[simp] theorem modEng_tierBase (s : State) (e : EngineId) (f : Engine → Engine) : (s.modEng e f).tierBase = s.tierBase := rfl
@[simp] theorem modEng_tierLimit (s : State) (e : EngineId) (f : Engine → Engine) : (s.modEng e f).tierLimit = s.tierLimit := rfl
@[simp] theorem modEng_freeCount (s : State) (e : EngineId) (f : Engine → Engine) : (s.modEng e f).freeCount = s.freeCount := rfl

/-! ## modBring -/

@[simp] theorem eng_modBring_self (s : State) (e : EngineId) (f : Bring → Bring) : (s.modBring e f).eng e = { s.eng e with bring := f (s.eng e).bring } := by
  simp [State.modBring]
theorem eng_modBring_other (s : State) (e d : EngineId) (f : Bring → Bring) (h : d ≠ e) : (s.modBring e f).eng d = s.eng d :=
  eng_modEng_other s e d _ h
@[simp] theorem modBring_pending (s : State) (e : EngineId) (f : Bring → Bring) : (s.modBring e f).pending = s.pending := rfl
@[simp] theorem modBring_time (s : State) (e : EngineId) (f : Bring → Bring) : (s.modBring e f).time = s.time := rfl
@[simp] theorem modBring_stepValue (s : State) (e : EngineId) (f : Bring → Bring) : (s.modBring e f).stepValue = s.stepValue := rfl
@[simp] theorem modBring_stepValid (s : State) (e : EngineId) (f : Bring → Bring) : (s.modBring e f).stepValid = s.stepValid := rfl
@[simp] theorem modBring_group (s : State) (e : EngineId) (f : Bring → Bring) : (s.modBring e f).group = s.group := rfl
@[simp] theorem modBring_tier (s : State) (e : EngineId) (f : Bring → Bring) : (s.modBring e f).tier = s.tier := rfl
@[simp] theorem modBring_tierBase (s : State) (e : EngineId) (f : Bring → Bring) : (s.modBring e f).tierBase = s.tierBase := rfl
@[simp] theorem modBring_tierLimit (s : State) (e : EngineId) (f : Bring → Bring) : (s.modBring e f).tierLimit = s.tierLimit := rfl
@[simp] theorem modBring_freeCount (s : State) (e : EngineId) (f : Bring → Bring) : (s.modBring e f).freeCount = s.freeCount := rfl

/-! ## modDict -/

@[simp] theorem eng_modDict_self (s : State) (e : EngineId) (f : Dict → Dict) : (s.modDict e f).eng e = { s.eng e with dict := f (s.eng e).dict } := by
  simp [State.modDict]
theorem eng_modDict_other (s : State) (e d : EngineId) (f : Dict → Dict) (h : d ≠ e) : (s.modDict e f).eng d = s.eng d :=
  eng_modEng_other s e d _ h
@[simp] theorem modDict_pending (s : State) (e : EngineId) (f : Dict → Dict) : (s.modDict e f).pending = s.pending := rfl
@[simp] theorem modDict_time (s : State) (e : EngineId) (f : Dict → Dict) : (s.modDict e f).time = s.time := rfl
@[simp] theorem modDict_stepValue (s : State) (e : EngineId) (f : Dict → Dict) : (s.modDict e f).stepValue = s.stepValue := rfl
@[simp] theorem modDict_stepValid (s : State) (e : EngineId) (f : Dict → Dict) : (s.modDict e f).stepValid = s.stepValid := rfl
@[simp] theorem modDict_group (s : State) (e : EngineId) (f : Dict → Dict) : (s.modDict e f).group = s.group := rfl
@[simp] theorem modDict_tier (s : State) (e : EngineId) (f : Dict → Dict) : (s.modDict e f).tier = s.tier := rfl
@[simp] theorem modDict_tierBase (s : State) (e : EngineId) (f : Dict → Dict) : (s.modDict e f).tierBase = s.tierBase := rfl
@[simp] theorem modDict_tierLimit (s : State) (e : EngineId) (f : Dict → Dict) : (s.modDict e f).tierLimit = s.tierLimit := rfl
@[simp] theorem modDict_freeCount (s : State) (e : EngineId) (f : Dict → Dict) : (s.modDict e f).freeCount = s.freeCount := rfl

/-! ## modIss -/

@[simp] theorem eng_modIss_self (s : State) (e : EngineId) (f : Issue → Issue) : (s.modIss e f).eng e = { s.eng e with iss := f (s.eng e).iss } := by
  simp [State.modIss]
theorem eng_modIss_other (s : State) (e d : EngineId) (f : Issue → Issue) (h : d ≠ e) : (s.modIss e f).eng d = s.eng d :=
  eng_modEng_other s e d _ h
@[simp] theorem modIss_pending (s : State) (e : EngineId) (f : Issue → Issue) : (s.modIss e f).pending = s.pending := rfl
@[simp] theorem modIss_time (s : State) (e : EngineId) (f : Issue → Issue) : (s.modIss e f).time = s.time := rfl
@[simp] theorem modIss_stepValue (s : State) (e : EngineId) (f : Issue → Issue) : (s.modIss e f).stepValue = s.stepValue := rfl
@[simp] theorem modIss_stepValid (s : State) (e : EngineId) (f : Issue → Issue) : (s.modIss e f).stepValid = s.stepValid := rfl
@[simp] theorem modIss_group (s : State) (e : EngineId) (f : Issue → Issue) : (s.modIss e f).group = s.group := rfl
@[simp] theorem modIss_tier (s : State) (e : EngineId) (f : Issue → Issue) : (s.modIss e f).tier = s.tier := rfl
@[simp] theorem modIss_tierBase (s : State) (e : EngineId) (f : Issue → Issue) : (s.modIss e f).tierBase = s.tierBase := rfl
@[simp] theorem modIss_tierLimit (s : State) (e : EngineId) (f : Issue → Issue) : (s.modIss e f).tierLimit = s.tierLimit := rfl
@[simp] theorem modIss_freeCount (s : State) (e : EngineId) (f : Issue → Issue) : (s.modIss e f).freeCount = s.freeCount := rfl

/-! ## modMem -/

@[simp] theorem eng_modMem_self (s : State) (e : EngineId) (f : Stack → Stack) : (s.modMem e f).eng e = { s.eng e with mem := f (s.eng e).mem } := by
  simp [State.modMem]
theorem eng_modMem_other (s : State) (e d : EngineId) (f : Stack → Stack) (h : d ≠ e) : (s.modMem e f).eng d = s.eng d :=
  eng_modEng_other s e d _ h
@[simp] theorem modMem_pending (s : State) (e : EngineId) (f : Stack → Stack) : (s.modMem e f).pending = s.pending := rfl
@[simp] theorem modMem_time (s : State) (e : EngineId) (f : Stack → Stack) : (s.modMem e f).time = s.time := rfl
@[simp] theorem modMem_stepValue (s : State) (e : EngineId) (f : Stack → Stack) : (s.modMem e f).stepValue = s.stepValue := rfl
@[simp] theorem modMem_stepValid (s : State) (e : EngineId) (f : Stack → Stack) : (s.modMem e f).stepValid = s.stepValid := rfl
@[simp] theorem modMem_group (s : State) (e : EngineId) (f : Stack → Stack) : (s.modMem e f).group = s.group := rfl
@[simp] theorem modMem_tier (s : State) (e : EngineId) (f : Stack → Stack) : (s.modMem e f).tier = s.tier := rfl
@[simp] theorem modMem_tierBase (s : State) (e : EngineId) (f : Stack → Stack) : (s.modMem e f).tierBase = s.tierBase := rfl
@[simp] theorem modMem_tierLimit (s : State) (e : EngineId) (f : Stack → Stack) : (s.modMem e f).tierLimit = s.tierLimit := rfl
@[simp] theorem modMem_freeCount (s : State) (e : EngineId) (f : Stack → Stack) : (s.modMem e f).freeCount = s.freeCount := rfl

/-! ## modJob -/

@[simp] theorem eng_modJob_self (s : State) (e : EngineId) (f : JobSt → JobSt) : (s.modJob e f).eng e = { s.eng e with job := f (s.eng e).job } := by
  simp [State.modJob]
theorem eng_modJob_other (s : State) (e d : EngineId) (f : JobSt → JobSt) (h : d ≠ e) : (s.modJob e f).eng d = s.eng d :=
  eng_modEng_other s e d _ h
@[simp] theorem modJob_pending (s : State) (e : EngineId) (f : JobSt → JobSt) : (s.modJob e f).pending = s.pending := rfl
@[simp] theorem modJob_time (s : State) (e : EngineId) (f : JobSt → JobSt) : (s.modJob e f).time = s.time := rfl
@[simp] theorem modJob_stepValue (s : State) (e : EngineId) (f : JobSt → JobSt) : (s.modJob e f).stepValue = s.stepValue := rfl
@[simp] theorem modJob_stepValid (s : State) (e : EngineId) (f : JobSt → JobSt) : (s.modJob e f).stepValid = s.stepValid := rfl
@[simp] theorem modJob_group (s : State) (e : EngineId) (f : JobSt → JobSt) : (s.modJob e f).group = s.group := rfl
@[simp] theorem modJob_tier (s : State) (e : EngineId) (f : JobSt → JobSt) : (s.modJob e f).tier = s.tier := rfl
@[simp] theorem modJob_tierBase (s : State) (e : EngineId) (f : JobSt → JobSt) : (s.modJob e f).tierBase = s.tierBase := rfl
@[simp] theorem modJob_tierLimit (s : State) (e : EngineId) (f : JobSt → JobSt) : (s.modJob e f).tierLimit = s.tierLimit := rfl
@[simp] theorem modJob_freeCount (s : State) (e : EngineId) (f : JobSt → JobSt) : (s.modJob e f).freeCount = s.freeCount := rfl

/-! ## modFab -/

@[simp] theorem eng_modFab_self (s : State) (e : EngineId) (f : Fabric → Fabric) : (s.modFab e f).eng e = { s.eng e with fab := f (s.eng e).fab } := by
  simp [State.modFab]
theorem eng_modFab_other (s : State) (e d : EngineId) (f : Fabric → Fabric) (h : d ≠ e) : (s.modFab e f).eng d = s.eng d :=
  eng_modEng_other s e d _ h
@[simp] theorem modFab_pending (s : State) (e : EngineId) (f : Fabric → Fabric) : (s.modFab e f).pending = s.pending := rfl
@[simp] theorem modFab_time (s : State) (e : EngineId) (f : Fabric → Fabric) : (s.modFab e f).time = s.time := rfl
@[simp] theorem modFab_stepValue (s : State) (e : EngineId) (f : Fabric → Fabric) : (s.modFab e f).stepValue = s.stepValue := rfl
@[simp] theorem modFab_stepValid (s : State) (e : EngineId) (f : Fabric → Fabric) : (s.modFab e f).stepValid = s.stepValid := rfl
@[simp] theorem modFab_group (s : State) (e : EngineId) (f : Fabric → Fabric) : (s.modFab e f).group = s.group := rfl
@[simp] theorem modFab_tier (s : State) (e : EngineId) (f : Fabric → Fabric) : (s.modFab e f).tier = s.tier := rfl
@[simp] theorem modFab_tierBase (s : State) (e : EngineId) (f : Fabric → Fabric) : (s.modFab e f).tierBase = s.tierBase := rfl
@[simp] theorem modFab_tierLimit (s : State) (e : EngineId) (f : Fabric → Fabric) : (s.modFab e f).tierLimit = s.tierLimit := rfl
@[simp] theorem modFab_freeCount (s : State) (e : EngineId) (f : Fabric → Fabric) : (s.modFab e f).freeCount = s.freeCount := rfl

/-! ## modReb -/

@[simp] theorem eng_modReb_self (s : State) (e : EngineId) (f : Rebuild → Rebuild) : (s.modReb e f).eng e = { s.eng e with reb := f (s.eng e).reb } := by
  simp [State.modReb]
theorem eng_modReb_other (s : State) (e d : EngineId) (f : Rebuild → Rebuild) (h : d ≠ e) : (s.modReb e f).eng d = s.eng d :=
  eng_modEng_other s e d _ h
@[simp] theorem modReb_pending (s : State) (e : EngineId) (f : Rebuild → Rebuild) : (s.modReb e f).pending = s.pending := rfl
@[simp] theorem modReb_time (s : State) (e : EngineId) (f : Rebuild → Rebuild) : (s.modReb e f).time = s.time := rfl
@[simp] theorem modReb_stepValue (s : State) (e : EngineId) (f : Rebuild → Rebuild) : (s.modReb e f).stepValue = s.stepValue := rfl
@[simp] theorem modReb_stepValid (s : State) (e : EngineId) (f : Rebuild → Rebuild) : (s.modReb e f).stepValid = s.stepValid := rfl
@[simp] theorem modReb_group (s : State) (e : EngineId) (f : Rebuild → Rebuild) : (s.modReb e f).group = s.group := rfl
@[simp] theorem modReb_tier (s : State) (e : EngineId) (f : Rebuild → Rebuild) : (s.modReb e f).tier = s.tier := rfl
@[simp] theorem modReb_tierBase (s : State) (e : EngineId) (f : Rebuild → Rebuild) : (s.modReb e f).tierBase = s.tierBase := rfl
@[simp] theorem modReb_tierLimit (s : State) (e : EngineId) (f : Rebuild → Rebuild) : (s.modReb e f).tierLimit = s.tierLimit := rfl
@[simp] theorem modReb_freeCount (s : State) (e : EngineId) (f : Rebuild → Rebuild) : (s.modReb e f).freeCount = s.freeCount := rfl

/-! ## modTier -/

@[simp] theorem eng_modTier_self (s : State) (e : EngineId) (f : TierSt → TierSt) : (s.modTier e f).eng e = { s.eng e with tier := f (s.eng e).tier } := by
  simp [State.modTier]
theorem eng_modTier_other (s : State) (e d : EngineId) (f : TierSt → TierSt) (h : d ≠ e) : (s.modTier e f).eng d = s.eng d :=
  eng_modEng_other s e d _ h
@[simp] theorem modTier_pending (s : State) (e : EngineId) (f : TierSt → TierSt) : (s.modTier e f).pending = s.pending := rfl
@[simp] theorem modTier_time (s : State) (e : EngineId) (f : TierSt → TierSt) : (s.modTier e f).time = s.time := rfl
@[simp] theorem modTier_stepValue (s : State) (e : EngineId) (f : TierSt → TierSt) : (s.modTier e f).stepValue = s.stepValue := rfl
@[simp] theorem modTier_stepValid (s : State) (e : EngineId) (f : TierSt → TierSt) : (s.modTier e f).stepValid = s.stepValid := rfl
@[simp] theorem modTier_group (s : State) (e : EngineId) (f : TierSt → TierSt) : (s.modTier e f).group = s.group := rfl
@[simp] theorem modTier_tier (s : State) (e : EngineId) (f : TierSt → TierSt) : (s.modTier e f).tier = s.tier := rfl
@[simp] theorem modTier_tierBase (s : State) (e : EngineId) (f : TierSt → TierSt) : (s.modTier e f).tierBase = s.tierBase := rfl
@[simp] theorem modTier_tierLimit (s : State) (e : EngineId) (f : TierSt → TierSt) : (s.modTier e f).tierLimit = s.tierLimit := rfl
@[simp] theorem modTier_freeCount (s : State) (e : EngineId) (f : TierSt → TierSt) : (s.modTier e f).freeCount = s.freeCount := rfl

/-! ## modSnap -/

@[simp] theorem eng_modSnap_self (s : State) (e : EngineId) (f : SnapSt → SnapSt) : (s.modSnap e f).eng e = { s.eng e with snap := f (s.eng e).snap } := by
  simp [State.modSnap]
theorem eng_modSnap_other (s : State) (e d : EngineId) (f : SnapSt → SnapSt) (h : d ≠ e) : (s.modSnap e f).eng d = s.eng d :=
  eng_modEng_other s e d _ h
@[simp] theorem modSnap_pending (s : State) (e : EngineId) (f : SnapSt → SnapSt) : (s.modSnap e f).pending = s.pending := rfl
@[simp] theorem modSnap_time (s : State) (e : EngineId) (f : SnapSt → SnapSt) : (s.modSnap e f).time = s.time := rfl
@[simp] theorem modSnap_stepValue (s : State) (e : EngineId) (f : SnapSt → SnapSt) : (s.modSnap e f).stepValue = s.stepValue := rfl
@[simp] theorem modSnap_stepValid (s : State) (e : EngineId) (f : SnapSt → SnapSt) : (s.modSnap e f).stepValid = s.stepValid := rfl
@[simp] theorem modSnap_group (s : State) (e : EngineId) (f : SnapSt → SnapSt) : (s.modSnap e f).group = s.group := rfl
@[simp] theorem modSnap_tier (s : State) (e : EngineId) (f : SnapSt → SnapSt) : (s.modSnap e f).tier = s.tier := rfl
@[simp] theorem modSnap_tierBase (s : State) (e : EngineId) (f : SnapSt → SnapSt) : (s.modSnap e f).tierBase = s.tierBase := rfl
@[simp] theorem modSnap_tierLimit (s : State) (e : EngineId) (f : SnapSt → SnapSt) : (s.modSnap e f).tierLimit = s.tierLimit := rfl
@[simp] theorem modSnap_freeCount (s : State) (e : EngineId) (f : SnapSt → SnapSt) : (s.modSnap e f).freeCount = s.freeCount := rfl

/-! ## modLou -/

@[simp] theorem eng_modLou_self (s : State) (e : EngineId) (f : Loupe → Loupe) : (s.modLou e f).eng e = { s.eng e with lou := f (s.eng e).lou } := by
  simp [State.modLou]
theorem eng_modLou_other (s : State) (e d : EngineId) (f : Loupe → Loupe) (h : d ≠ e) : (s.modLou e f).eng d = s.eng d :=
  eng_modEng_other s e d _ h
@[simp] theorem modLou_pending (s : State) (e : EngineId) (f : Loupe → Loupe) : (s.modLou e f).pending = s.pending := rfl
@[simp] theorem modLou_time (s : State) (e : EngineId) (f : Loupe → Loupe) : (s.modLou e f).time = s.time := rfl
@[simp] theorem modLou_stepValue (s : State) (e : EngineId) (f : Loupe → Loupe) : (s.modLou e f).stepValue = s.stepValue := rfl
@[simp] theorem modLou_stepValid (s : State) (e : EngineId) (f : Loupe → Loupe) : (s.modLou e f).stepValid = s.stepValid := rfl
@[simp] theorem modLou_group (s : State) (e : EngineId) (f : Loupe → Loupe) : (s.modLou e f).group = s.group := rfl
@[simp] theorem modLou_tier (s : State) (e : EngineId) (f : Loupe → Loupe) : (s.modLou e f).tier = s.tier := rfl
@[simp] theorem modLou_tierBase (s : State) (e : EngineId) (f : Loupe → Loupe) : (s.modLou e f).tierBase = s.tierBase := rfl
@[simp] theorem modLou_tierLimit (s : State) (e : EngineId) (f : Loupe → Loupe) : (s.modLou e f).tierLimit = s.tierLimit := rfl
@[simp] theorem modLou_freeCount (s : State) (e : EngineId) (f : Loupe → Loupe) : (s.modLou e f).freeCount = s.freeCount := rfl

/-! ## The group -/

@[simp] theorem modGroup_pending (s : State) (f : Group → Group) : (s.modGroup f).pending = s.pending := rfl
@[simp] theorem modGroup_time (s : State) (f : Group → Group) : (s.modGroup f).time = s.time := rfl
@[simp] theorem modGroup_stepValue (s : State) (f : Group → Group) : (s.modGroup f).stepValue = s.stepValue := rfl
@[simp] theorem modGroup_stepValid (s : State) (f : Group → Group) : (s.modGroup f).stepValid = s.stepValid := rfl
@[simp] theorem modGroup_group (s : State) (f : Group → Group) : (s.modGroup f).group = f s.group := rfl
@[simp] theorem modGroup_tier (s : State) (f : Group → Group) : (s.modGroup f).tier = s.tier := rfl
@[simp] theorem modGroup_tierBase (s : State) (f : Group → Group) : (s.modGroup f).tierBase = s.tierBase := rfl
@[simp] theorem modGroup_tierLimit (s : State) (f : Group → Group) : (s.modGroup f).tierLimit = s.tierLimit := rfl
@[simp] theorem modGroup_freeCount (s : State) (f : Group → Group) : (s.modGroup f).freeCount = s.freeCount := rfl
@[simp] theorem modGroup_eng (s : State) (f : Group → Group) (e : EngineId) : (s.modGroup f).eng e = s.eng e := rfl

@[simp] theorem modLc_group (s : State) (f : LcSt → LcSt) : (s.modLc f).group = { s.group with lc := f s.group.lc } := rfl
@[simp] theorem modLc_eng (s : State) (f : LcSt → LcSt) (e : EngineId) : (s.modLc f).eng e = s.eng e := rfl
@[simp] theorem modLc_pending (s : State) (f : LcSt → LcSt) : (s.modLc f).pending = s.pending := rfl
@[simp] theorem modLc_time (s : State) (f : LcSt → LcSt) : (s.modLc f).time = s.time := rfl
@[simp] theorem modLc_stepValue (s : State) (f : LcSt → LcSt) : (s.modLc f).stepValue = s.stepValue := rfl
@[simp] theorem modLc_stepValid (s : State) (f : LcSt → LcSt) : (s.modLc f).stepValid = s.stepValid := rfl
@[simp] theorem modLc_tier (s : State) (f : LcSt → LcSt) : (s.modLc f).tier = s.tier := rfl
@[simp] theorem modLc_tierBase (s : State) (f : LcSt → LcSt) : (s.modLc f).tierBase = s.tierBase := rfl
@[simp] theorem modLc_tierLimit (s : State) (f : LcSt → LcSt) : (s.modLc f).tierLimit = s.tierLimit := rfl
@[simp] theorem modLc_freeCount (s : State) (f : LcSt → LcSt) : (s.modLc f).freeCount = s.freeCount := rfl

@[simp] theorem modGDict_group (s : State) (f : GDict → GDict) : (s.modGDict f).group = { s.group with dict := f s.group.dict } := rfl
@[simp] theorem modGDict_eng (s : State) (f : GDict → GDict) (e : EngineId) : (s.modGDict f).eng e = s.eng e := rfl
@[simp] theorem modGDict_pending (s : State) (f : GDict → GDict) : (s.modGDict f).pending = s.pending := rfl
@[simp] theorem modGDict_time (s : State) (f : GDict → GDict) : (s.modGDict f).time = s.time := rfl
@[simp] theorem modGDict_stepValue (s : State) (f : GDict → GDict) : (s.modGDict f).stepValue = s.stepValue := rfl
@[simp] theorem modGDict_stepValid (s : State) (f : GDict → GDict) : (s.modGDict f).stepValid = s.stepValid := rfl
@[simp] theorem modGDict_tier (s : State) (f : GDict → GDict) : (s.modGDict f).tier = s.tier := rfl
@[simp] theorem modGDict_tierBase (s : State) (f : GDict → GDict) : (s.modGDict f).tierBase = s.tierBase := rfl
@[simp] theorem modGDict_tierLimit (s : State) (f : GDict → GDict) : (s.modGDict f).tierLimit = s.tierLimit := rfl
@[simp] theorem modGDict_freeCount (s : State) (f : GDict → GDict) : (s.modGDict f).freeCount = s.freeCount := rfl

@[simp] theorem modEv_group (s : State) (f : Events → Events) : (s.modEv f).group = { s.group with ev := f s.group.ev } := rfl
@[simp] theorem modEv_eng (s : State) (f : Events → Events) (e : EngineId) : (s.modEv f).eng e = s.eng e := rfl
@[simp] theorem modEv_pending (s : State) (f : Events → Events) : (s.modEv f).pending = s.pending := rfl
@[simp] theorem modEv_time (s : State) (f : Events → Events) : (s.modEv f).time = s.time := rfl
@[simp] theorem modEv_stepValue (s : State) (f : Events → Events) : (s.modEv f).stepValue = s.stepValue := rfl
@[simp] theorem modEv_stepValid (s : State) (f : Events → Events) : (s.modEv f).stepValid = s.stepValid := rfl
@[simp] theorem modEv_tier (s : State) (f : Events → Events) : (s.modEv f).tier = s.tier := rfl
@[simp] theorem modEv_tierBase (s : State) (f : Events → Events) : (s.modEv f).tierBase = s.tierBase := rfl
@[simp] theorem modEv_tierLimit (s : State) (f : Events → Events) : (s.modEv f).tierLimit = s.tierLimit := rfl
@[simp] theorem modEv_freeCount (s : State) (f : Events → Events) : (s.modEv f).freeCount = s.freeCount := rfl

@[simp] theorem modHealth_group (s : State) (f : Healths → Healths) : (s.modHealth f).group = { s.group with health := f s.group.health } := rfl
@[simp] theorem modHealth_eng (s : State) (f : Healths → Healths) (e : EngineId) : (s.modHealth f).eng e = s.eng e := rfl
@[simp] theorem modHealth_pending (s : State) (f : Healths → Healths) : (s.modHealth f).pending = s.pending := rfl
@[simp] theorem modHealth_time (s : State) (f : Healths → Healths) : (s.modHealth f).time = s.time := rfl
@[simp] theorem modHealth_stepValue (s : State) (f : Healths → Healths) : (s.modHealth f).stepValue = s.stepValue := rfl
@[simp] theorem modHealth_stepValid (s : State) (f : Healths → Healths) : (s.modHealth f).stepValid = s.stepValid := rfl
@[simp] theorem modHealth_tier (s : State) (f : Healths → Healths) : (s.modHealth f).tier = s.tier := rfl
@[simp] theorem modHealth_tierBase (s : State) (f : Healths → Healths) : (s.modHealth f).tierBase = s.tierBase := rfl
@[simp] theorem modHealth_tierLimit (s : State) (f : Healths → Healths) : (s.modHealth f).tierLimit = s.tierLimit := rfl
@[simp] theorem modHealth_freeCount (s : State) (f : Healths → Healths) : (s.modHealth f).freeCount = s.freeCount := rfl

@[simp] theorem modCoord_group (s : State) (f : Coord → Coord) : (s.modCoord f).group = { s.group with coord := f s.group.coord } := rfl
@[simp] theorem modCoord_eng (s : State) (f : Coord → Coord) (e : EngineId) : (s.modCoord f).eng e = s.eng e := rfl
@[simp] theorem modCoord_pending (s : State) (f : Coord → Coord) : (s.modCoord f).pending = s.pending := rfl
@[simp] theorem modCoord_time (s : State) (f : Coord → Coord) : (s.modCoord f).time = s.time := rfl
@[simp] theorem modCoord_stepValue (s : State) (f : Coord → Coord) : (s.modCoord f).stepValue = s.stepValue := rfl
@[simp] theorem modCoord_stepValid (s : State) (f : Coord → Coord) : (s.modCoord f).stepValid = s.stepValid := rfl
@[simp] theorem modCoord_tier (s : State) (f : Coord → Coord) : (s.modCoord f).tier = s.tier := rfl
@[simp] theorem modCoord_tierBase (s : State) (f : Coord → Coord) : (s.modCoord f).tierBase = s.tierBase := rfl
@[simp] theorem modCoord_tierLimit (s : State) (f : Coord → Coord) : (s.modCoord f).tierLimit = s.tierLimit := rfl
@[simp] theorem modCoord_freeCount (s : State) (f : Coord → Coord) : (s.modCoord f).freeCount = s.freeCount := rfl

end Sys2Proof.Machine
end

