-- ==== Sys2Proof/Laws/Issue.lean ====
section
/-!
SUPPORT. What the shared operations of issue and completion can do: where an instruction row goes, how it comes to its opcode's
dispatch, what putting an operation in flight and ending an instruction at dispatch change.
-/

namespace Sys2Proof.Machine

open Sys2Proof

/-- An engine's number names that engine. -/
@[simp] theorem engineOf_val (e : EngineId) : engineOf e.val = e := by
  apply Fin.ext
  simp [engineOf, Fin.ofNat, Nat.mod_eq_of_lt e.isLt]

/-- The copy of an instruction that names the engine is the instruction. -/
theorem atEngine_self (i : RawInstr) (e : EngineId) (h : i.body.target.toNat = e.val) : atEngine i e = i := by
  simp [atEngine, ← h]

/-- An instruction that names one engine reaches that engine's issue. -/
theorem route_engine (units : State → EngineId → RawInstr → Nat) (begin_ : State → EngineId → RawInstr → State)
    (i : RawInstr) (s : State) (e : EngineId) (h : i.body.target.toNat = e.val) :
    route units begin_ i s = issueAt units begin_ s e i := by
  have := e.isLt
  simp only [route, targets, h]
  rw [if_neg (by simp <;> omega), if_neg (by simp <;> omega), if_pos this]
  simp [forEngines, atEngine_self i e h]

/-- An instruction that heads an empty stream and may be issued is dispatched. -/
theorem issueAt_dispatch (units : State → EngineId → RawInstr → Nat) (begin_ : State → EngineId → RawInstr → State)
    (i : RawInstr) (s : State) (e : EngineId) (hp : present s e = true) (hq : streamQueue s e i.stream = [])
    (hc : canIssue s e i = true) : issueAt units begin_ s e i = dispatch units begin_ s e i := by
  simp [issueAt, hp, hq, hc]

/-- Once checks 2 and 3 of 12 R342 pass, the opcode's own dispatch runs. -/
theorem dispatch_begins (units : State → EngineId → RawInstr → Nat) (begin_ : State → EngineId → RawInstr → State)
    (i : RawInstr) (s : State) (e : EngineId) (hk : opcodeKnown i.op = true) (hr : i.body.rsvd = 0) (hm : i.body.cntMode ≠ 3)
    (ha : armed s e = true ∨ runsUnarmed i = true) :
    dispatch units begin_ s e i = begin_ (countAtIssue (bump s e cntInstrIssued 1) e i) e i := by
  have harm : armed (countAtIssue (bump s e cntInstrIssued 1) e i) e = armed s e := by
    unfold countAtIssue armed
    split <;> simp [setArrival, bump, bumpAt]
  simp only [dispatch, hk, hr, harm]
  have hm' : ¬ i.body.cntMode = 3#2 := hm
  rcases ha with h | h <;> simp [hm', h]

end Sys2Proof.Machine
end

