-- ==== Sys2Proof/Laws/Memory.lean ====
section
/-!
SUPPORT. Byte storage: its canonical form is kept by every operation, a read after a write gives the bytes written, and a write
leaves every other byte alone.
-/

namespace Sys2Proof.Machine

open Sys2Proof

/-- The canonical form as an order on the cells and a condition on each. -/
theorem wfFrom_iff (m : Memory) (a : Nat) : wfFrom a m = true ↔
    m.Pairwise (fun x y => x.1 < y.1) ∧ ∀ c ∈ m, a ≤ c.1 ∧ c.2 ≠ 0 := by
  induction m generalizing a with
  | nil => simp [wfFrom]
  | cons c rest ih =>
    simp only [wfFrom, Bool.and_eq_true, decide_eq_true_eq, bne_iff_ne, ne_eq, ih, List.pairwise_cons, List.mem_cons, forall_eq_or_imp]
    constructor
    · rintro ⟨⟨h1, h2⟩, h3, h4⟩
      exact ⟨⟨fun x hx => by have := (h4 x hx).1; omega, h3⟩, ⟨h1, h2⟩, fun x hx => ⟨by have := (h4 x hx).1; omega, (h4 x hx).2⟩⟩
    · rintro ⟨⟨h1, h3⟩, ⟨h2, h4⟩, h5⟩
      exact ⟨⟨h2, h4⟩, h3, fun x hx => ⟨h1 x hx, (h5 x hx).2⟩⟩

theorem Memory.wf_iff (m : Memory) : m.wf = true ↔ m.Pairwise (fun x y => x.1 < y.1) ∧ ∀ c ∈ m, c.2 ≠ 0 := by
  simp [Memory.wf, wfFrom_iff]

theorem Memory.wf_nil : Memory.wf [] = true := rfl

theorem Memory.wf_filter (m : Memory) (p : Host.Cell → Bool) (h : m.wf = true) : Memory.wf (m.filter p) = true := by
  rw [Memory.wf_iff] at *
  exact ⟨h.1.filter p, fun c hc => h.2 c (List.mem_of_mem_filter hc)⟩

/-- The cells of a byte run lie in it, in order, without a zero byte. -/
theorem cellsOf_spec (a : Nat) (bs : List Byte) : (cellsOf a bs).Pairwise (fun x y => x.1 < y.1) ∧
    ∀ c ∈ cellsOf a bs, a ≤ c.1 ∧ c.1 < a + bs.length ∧ c.2 ≠ 0 := by
  induction bs generalizing a with
  | nil => simp [cellsOf]
  | cons b bs ih =>
    obtain ⟨h1, h2⟩ := ih (a + 1)
    unfold cellsOf
    split
    · exact ⟨h1, fun c hc => by obtain ⟨x, y, z⟩ := h2 c hc; exact ⟨by omega, by simp only [List.length_cons]; omega, z⟩⟩
    · rename_i hb
      refine ⟨List.pairwise_cons.2 ⟨fun c hc => by have := (h2 c hc).1; simp only; omega, h1⟩, ?_⟩
      intro c hc
      rcases List.mem_cons.1 hc with rfl | hc
      · exact ⟨Nat.le_refl _, by simp, by simpa using hb⟩
      · obtain ⟨x, y, z⟩ := h2 c hc
        exact ⟨by omega, by simp only [List.length_cons]; omega, z⟩

/-- A write keeps the canonical form. -/
theorem Memory.wf_write (m : Memory) (a : Nat) (bs : List Byte) (h : m.wf = true) : (m.write a bs).wf = true := by
  rw [Memory.wf_iff] at *
  obtain ⟨c1, c2⟩ := cellsOf_spec a bs
  unfold Memory.write
  refine ⟨?_, ?_⟩
  · simp only [List.append_assoc, List.pairwise_append]
    refine ⟨h.1.filter _, ⟨c1, h.1.filter _, fun x hx y hy => ?_⟩, fun x hx y hy => ?_⟩
    · have := (c2 x hx).2.1
      have := (List.mem_filter.1 hy).2
      simp only [decide_eq_true_eq] at this; omega
    · have h1 := (List.mem_filter.1 hx).2
      simp only [decide_eq_true_eq] at h1
      rcases List.mem_append.1 hy with hy | hy
      · have := (c2 y hy).1; omega
      · have := (List.mem_filter.1 hy).2
        simp only [decide_eq_true_eq] at this; omega
  · intro c hc
    simp only [List.append_assoc, List.mem_append, List.mem_filter] at hc
    rcases hc with hc | hc | hc
    · exact h.2 c hc.1
    · exact (c2 c hc).2.2
    · exact h.2 c hc.1

/-- Clearing a range keeps the canonical form. -/
theorem Memory.wf_clear (m : Memory) (a n : Nat) (h : m.wf = true) : (m.clear a n).wf = true := m.wf_filter _ h

/-- The byte that a run's cells hold at an address. -/
theorem cellsOf_find (a : Nat) (bs : List Byte) (x : Nat) (h1 : a ≤ x) (h2 : x < a + bs.length) :
    (((cellsOf a bs).find? (fun c => c.1 == x)).map (·.2)).getD 0 = bs.getD (x - a) 0 := by
  induction bs generalizing a with
  | nil => simp only [List.length_nil] at h2; omega
  | cons b bs ih =>
    simp only [List.length_cons] at h2
    by_cases hx : x = a
    · subst hx
      unfold cellsOf
      split
      · rename_i hb
        have hn : (cellsOf (x + 1) bs).find? (fun c => c.1 == x) = none := by
          rw [List.find?_eq_none]
          intro c hc
          have := ((cellsOf_spec (x + 1) bs).2 c hc).1
          simp only [beq_iff_eq]; omega
        simp only [hn, Nat.sub_self, Option.map_none, Option.getD_none, List.getD_cons_zero]
        exact (by simpa using hb : b = 0).symm
      · simp
    · have e : x - a = (x - (a + 1)) + 1 := by omega
      have := ih (a + 1) (by omega) (by omega)
      unfold cellsOf
      split
      · rw [this, e, List.getD_cons_succ]
      · rw [List.find?_cons_of_neg (by simp only [beq_iff_eq]; omega), this, e, List.getD_cons_succ]

theorem cellsOf_find_none (a : Nat) (bs : List Byte) (x : Nat) (h : x < a ∨ a + bs.length ≤ x) :
    (cellsOf a bs).find? (fun c => c.1 == x) = none := by
  rw [List.find?_eq_none]
  intro c hc
  obtain ⟨h1, h2, -⟩ := (cellsOf_spec a bs).2 c hc
  simp only [beq_iff_eq]; omega

theorem find_filter_same {α : Type} (l : List α) (p q : α → Bool) (h : ∀ x ∈ l, q x = true → p x = true) :
    (l.filter p).find? q = l.find? q := by
  induction l with
  | nil => rfl
  | cons x l ih =>
    have ih := ih (fun y hy => h y (List.mem_cons_of_mem _ hy))
    by_cases hq : q x = true
    · have := h x (List.mem_cons_self ..) hq
      rw [List.filter_cons_of_pos this, List.find?_cons_of_pos hq, List.find?_cons_of_pos hq]
    · by_cases hp : p x = true
      · rw [List.filter_cons_of_pos hp, List.find?_cons_of_neg hq, List.find?_cons_of_neg hq, ih]
      · rw [List.filter_cons_of_neg hp, List.find?_cons_of_neg hq, ih]

theorem find_filter_none {α : Type} (l : List α) (p q : α → Bool) (h : ∀ x ∈ l, q x = true → p x = false) :
    (l.filter p).find? q = none := by
  rw [List.find?_eq_none]
  intro x hx hq
  obtain ⟨h1, h2⟩ := List.mem_filter.1 hx
  simp [h x h1 hq] at h2

/-- A byte outside a write reads as before. -/
theorem Memory.byteAt_write_outside (m : Memory) (a : Nat) (bs : List Byte) (x : Nat) (h : x < a ∨ a + bs.length ≤ x) :
    (m.write a bs).byteAt x = m.byteAt x := by
  unfold Memory.byteAt Memory.write
  simp only [List.append_assoc, List.find?_append, cellsOf_find_none a bs x h, Option.none_or]
  rcases h with h | h
  · rw [find_filter_same m _ _ (fun c _ hq => by simp only [beq_iff_eq] at hq; simp only [decide_eq_true_eq]; omega),
        find_filter_none m (fun c => decide (a + bs.length ≤ c.1)) _
          (fun c _ hq => by simp only [beq_iff_eq] at hq; simp only [decide_eq_false_iff_not]; omega), Option.or_none]
  · rw [find_filter_none m (fun c => decide (c.1 < a)) _
          (fun c _ hq => by simp only [beq_iff_eq] at hq; simp only [decide_eq_false_iff_not]; omega), Option.none_or,
        find_filter_same m _ _ (fun c _ hq => by simp only [beq_iff_eq] at hq; simp only [decide_eq_true_eq]; omega)]

/-- A byte inside a write reads as the byte written. -/
theorem Memory.byteAt_write_inside (m : Memory) (a : Nat) (bs : List Byte) (x : Nat) (h1 : a ≤ x) (h2 : x < a + bs.length) :
    (m.write a bs).byteAt x = bs.getD (x - a) 0 := by
  rw [← cellsOf_find a bs x h1 h2]
  unfold Memory.byteAt Memory.write
  simp only [List.append_assoc, List.find?_append]
  rw [find_filter_none m (fun c => decide (c.1 < a)) _
        (fun c _ hq => by simp only [beq_iff_eq] at hq; simp only [decide_eq_false_iff_not]; omega),
      find_filter_none m (fun c => decide (a + bs.length ≤ c.1)) _
        (fun c _ hq => by simp only [beq_iff_eq] at hq; simp only [decide_eq_false_iff_not]; omega), Option.none_or, Option.or_none]

/-- The run that starts at the address of rising cells reads byte by byte. -/
theorem readLoop_eq (n a : Nat) (m : Memory) (h : wfFrom a m = true) :
    readLoop n a m = (List.range n).map (fun i => m.byteAt (a + i)) := by
  induction n generalizing a m with
  | zero => simp [readLoop]
  | succ n ih =>
    rw [List.range_succ_eq_map, List.map_cons, List.map_map]
    cases m with
    | nil =>
      have z : ∀ n b, readLoop n b [] = List.replicate n 0 := fun n => by
        induction n with
        | zero => intro b; rfl
        | succ n ih => intro b; simp [readLoop, ih, List.replicate_succ]
      simp only [readLoop, z]
      congr 1
      exact (List.eq_replicate_iff.2 ⟨by simp, by simp [Memory.byteAt]⟩).symm
    | cons c rest =>
      obtain ⟨b, v⟩ := c
      have h' := (wfFrom_iff _ _).1 h
      have hr : ∀ c ∈ rest, b < c.1 := (List.pairwise_cons.1 h'.1).1
      have hb : a ≤ b := (h'.2 (b, v) (List.mem_cons_self ..)).1
      simp only [readLoop]
      split
      · rename_i e
        have e : b = a := by simpa using e
        subst e
        have hw : wfFrom (b + 1) rest = true := by
          simp only [wfFrom, Bool.and_eq_true] at h; exact h.2
        rw [ih (b + 1) rest hw]
        congr 1
        · simp [Memory.byteAt]
        · apply List.map_congr_left
          intro i _
          simp only [Function.comp_apply, Nat.succ_eq_add_one]
          unfold Memory.byteAt
          rw [List.find?_cons_of_neg (by simp only [beq_iff_eq]; omega), show b + 1 + i = b + (i + 1) by omega]
      · rename_i e
        have e : b ≠ a := by simpa using e
        have hw : wfFrom (a + 1) ((b, v) :: rest) = true := by
          rw [wfFrom_iff]
          refine ⟨h'.1, fun c hc => ⟨?_, (h'.2 c hc).2⟩⟩
          rcases List.mem_cons.1 hc with rfl | hc
          · simp only; omega
          · have := hr c hc; omega
        rw [ih (a + 1) _ hw]
        congr 1
        · unfold Memory.byteAt
          rw [List.find?_eq_none.2]
          · rfl
          · intro c hc
            simp only [beq_iff_eq]
            rcases List.mem_cons.1 hc with rfl | hc
            · simpa using e
            · have := hr c hc; omega
        · apply List.map_congr_left
          intro i _
          simp only [Function.comp_apply, Nat.succ_eq_add_one]
          rw [show a + 1 + i = a + (i + 1) by omega]

/-- A read is the bytes at its addresses. -/
theorem Memory.read_eq (m : Memory) (a n : Nat) (h : m.wf = true) :
    m.read a n = (List.range n).map (fun i => m.byteAt (a + i)) := by
  have hw : wfFrom a (m.filter (fun c => decide (a ≤ c.1))) = true := by
    have h := (m.wf_iff).1 h
    rw [wfFrom_iff]
    refine ⟨h.1.filter _, fun c hc => ?_⟩
    obtain ⟨h1, h2⟩ := List.mem_filter.1 hc
    exact ⟨by simpa using h2, h.2 c h1⟩
  unfold Memory.read
  rw [readLoop_eq n a _ hw]
  apply List.map_congr_left
  intro i _
  unfold Memory.byteAt
  rw [find_filter_same m _ _ (fun c _ hq => by simp only [beq_iff_eq] at hq; simp only [decide_eq_true_eq]; omega)]

/-- A read gives as many bytes as it asks for. -/
theorem Memory.length_read (m : Memory) (a n : Nat) : (m.read a n).length = n := by
  have h : ∀ n a (m : Memory), (readLoop n a m).length = n := by
    intro n
    induction n with
    | zero => intro a m; rfl
    | succ n ih =>
      intro a m
      cases m with
      | nil => simp [readLoop, ih]
      | cons c rest =>
        obtain ⟨b, v⟩ := c
        simp only [readLoop]
        split <;> simp [ih]
  exact h n a _

/-- A read after a write of the same range gives the bytes written. -/
theorem Memory.read_write_same (m : Memory) (a : Nat) (bs : List Byte) (h : m.wf = true) :
    (m.write a bs).read a bs.length = bs := by
  rw [Memory.read_eq _ _ _ (m.wf_write a bs h)]
  apply List.ext_getElem
  · simp
  · intro i h1 h2
    simp only [List.getElem_map, List.getElem_range]
    rw [m.byteAt_write_inside a bs (a + i) (by omega) (by omega), Nat.add_sub_cancel_left, List.getD_eq_getElem?_getD,
      List.getElem?_eq_getElem h2, Option.getD_some]

/-- A read of a range that a write does not meet gives what it gave before. -/
theorem Memory.read_write_apart (m : Memory) (a : Nat) (bs : List Byte) (b n : Nat) (h : m.wf = true)
    (hd : b + n ≤ a ∨ a + bs.length ≤ b) : (m.write a bs).read b n = m.read b n := by
  rw [Memory.read_eq _ _ _ (m.wf_write a bs h), Memory.read_eq _ _ _ h]
  apply List.map_congr_left
  intro i hi
  have := List.mem_range.1 hi
  exact m.byteAt_write_outside a bs (b + i) (by omega)

/-- A cleared byte reads as zero, and every other as before. -/
theorem Memory.byteAt_clear (m : Memory) (a n x : Nat) :
    (m.clear a n).byteAt x = if a ≤ x ∧ x < a + n then 0 else m.byteAt x := by
  unfold Memory.byteAt Memory.clear
  split
  · rename_i h
    rw [find_filter_none m _ _ (fun c _ hq => by
      simp only [beq_iff_eq] at hq
      simp only [Bool.or_eq_false_iff, decide_eq_false_iff_not]; omega)]
    rfl
  · rename_i h
    rw [find_filter_same m _ _ (fun c _ hq => by
      simp only [beq_iff_eq] at hq
      simp only [Bool.or_eq_true, decide_eq_true_eq]; omega)]

/-! ## The operations of the state -/

/-- Every store of the state in its canonical form. -/
def Stores (s : State) : Prop := s.tier.wf = true ∧ ∀ e, (s.eng e).mem.hbm.wf = true ∧ (s.eng e).job.accCache.wf = true

/-- Right after reset every store is in its canonical form: it lists nothing. -/
theorem stores_reset : Stores State.reset := by
  refine ⟨rfl, fun e => ⟨?_, ?_⟩⟩ <;> fin_cases e <;> rfl

/-- A change of one engine that keeps its stores keeps them all. -/
theorem stores_modEng (s : State) (e : EngineId) (f : Engine → Engine) (h : Stores s)
    (hf : (f (s.eng e)).mem.hbm.wf = true ∧ (f (s.eng e)).job.accCache.wf = true) : Stores (s.modEng e f) := by
  refine ⟨h.1, fun d => ?_⟩
  by_cases hd : d = e
  · subst hd; rw [eng_modEng_self]; exact hf
  · rw [eng_modEng_other s e d f hd]; exact h.2 d

theorem stores_modMem (s : State) (e : EngineId) (f : Stack → Stack) (h : Stores s) (hf : (f (s.eng e).mem).hbm.wf = true) :
    Stores (s.modMem e f) := stores_modEng s e _ h ⟨hf, (h.2 e).2⟩

theorem stores_modJob (s : State) (e : EngineId) (f : JobSt → JobSt) (h : Stores s) (hf : (f (s.eng e).job).accCache.wf = true) :
    Stores (s.modJob e f) := stores_modEng s e _ h ⟨(h.2 e).1, hf⟩

theorem stores_setHbm (s : State) (e : EngineId) (a : Nat) (bs : List Byte) (h : Stores s) : Stores (setHbm s e a bs) := by
  unfold setHbm
  split
  · exact stores_modMem s e _ h (Memory.wf_write _ _ _ (h.2 e).1)
  · exact h

theorem stores_zeroHbm (s : State) (e : EngineId) (a n : Nat) (h : Stores s) : Stores (zeroHbm s e a n) := by
  unfold zeroHbm
  split
  · exact stores_modMem s e _ h (Memory.wf_clear _ _ _ (h.2 e).1)
  · exact h

theorem stores_tierWrite (s : State) (a : Nat) (bs : List Byte) (h : Stores s) : Stores (tierWrite s a bs) :=
  ⟨Memory.wf_write _ _ _ h.1, h.2⟩

theorem stores_winWrite (s : State) (e : EngineId) (w : Window) (a : Nat) (bs : List Byte) (h : Stores s) :
    Stores (winWrite s e w a bs) := by
  unfold winWrite
  split
  · exact stores_setHbm s e a bs h
  · exact stores_tierWrite s a bs h

/-- A write inside the stack reads back, leaves every other byte of it, and touches no other engine and no tier byte. -/
theorem setHbm_spec (s : State) (e : EngineId) (a : Nat) (bs : List Byte) (hw : (s.eng e).mem.hbm.wf = true)
    (h : a + bs.length ≤ stackBytes) :
    hbm (setHbm s e a bs) e a bs.length = bs
    ∧ (∀ x, x < a ∨ a + bs.length ≤ x → ((setHbm s e a bs).eng e).mem.hbm.byteAt x = (s.eng e).mem.hbm.byteAt x)
    ∧ (∀ d, d ≠ e → (setHbm s e a bs).eng d = s.eng d) ∧ (setHbm s e a bs).tier = s.tier := by
  have he : setHbm s e a bs = s.modMem e (fun m => { m with hbm := m.hbm.write a bs, health := healthAfter m.health a bs.length }) := by
    unfold setHbm; rw [if_pos h]
  rw [he]
  refine ⟨?_, fun x hx => ?_, fun d hd => eng_modEng_other s e d _ hd, rfl⟩
  · unfold hbm State.modMem
    rw [eng_modEng_self]
    exact Memory.read_write_same _ a bs hw
  · unfold State.modMem
    rw [eng_modEng_self]
    exact Memory.byteAt_write_outside _ a bs x hx

end Sys2Proof.Machine
end

