-- ==== Sys2Proof/Laws/Ops.lean ====
section
/-!
SUPPORT. Association lists, and what each shared operation can do: counters, arrival counters, event records, facets, operations,
chunks on their way out, requests to stack and tier, bring-up reports, the dictionary's answers. Each says once what a later proof needs of it.
-/

namespace Sys2Proof

/-! ## Association lists -/

section AList

variable {α β : Type} [DecidableEq α]

@[simp] theorem AList.get?_set_self (l : AList α β) (k : α) (v : β) : AList.get? (AList.set l k v) k = some v := by
  simp [AList.get?, AList.set]

theorem AList.get?_erase_other (l : AList α β) (k j : α) (h : j ≠ k) : AList.get? (Sys2Proof.AList.erase l k) j = AList.get? l j := by
  unfold AList.get? Sys2Proof.AList.erase
  congr 1
  induction l with
  | nil => rfl
  | cons p l ih =>
    by_cases hk : p.1 = k
    · have hj : p.1 ≠ j := fun x => h (x ▸ hk)
      rw [List.filter_cons_of_neg (by simp [hk]), List.find?_cons_of_neg (by simp [hj]), ih]
    · rw [List.filter_cons_of_pos (by simp [hk])]
      by_cases hj : p.1 = j
      · rw [List.find?_cons_of_pos (by simp [hj]), List.find?_cons_of_pos (by simp [hj])]
      · rw [List.find?_cons_of_neg (by simp [hj]), List.find?_cons_of_neg (by simp [hj]), ih]

theorem AList.get?_set_other (l : AList α β) (k j : α) (v : β) (h : j ≠ k) : AList.get? (AList.set l k v) j = AList.get? l j := by
  have e : AList.get? (AList.set l k v) j = AList.get? (Sys2Proof.AList.erase l k) j := by
    unfold AList.get? AList.set
    rw [List.find?_cons_of_neg (by simp only [beq_iff_eq]; exact fun x => h x.symm)]
  rw [e, AList.get?_erase_other l k j h]

@[simp] theorem AList.get?_erase_self (l : AList α β) (k : α) : AList.get? (Sys2Proof.AList.erase l k) k = none := by
  unfold AList.get? Sys2Proof.AList.erase
  rw [List.find?_eq_none.2]
  · rfl
  · intro p hp
    have := (List.mem_filter.1 hp).2
    simpa using this

@[simp] theorem AList.getD_set_self (l : AList α β) (k : α) (v d : β) : AList.getD (AList.set l k v) k d = v := by
  simp [AList.getD]

theorem AList.getD_set_other (l : AList α β) (k j : α) (v d : β) (h : j ≠ k) :
    AList.getD (AList.set l k v) j d = AList.getD l j d := by
  simp [AList.getD, AList.get?_set_other l k j v h]

end AList

end Sys2Proof

namespace Sys2Proof.Machine

open Sys2Proof

/-! ## Counters -/

/-- A counter counts modulo 2^64. -/
@[simp] theorem counter_bumpAt_self (s : State) (e : EngineId) (r : Nat × Nat) (i n : Nat) :
    counter (bumpAt s e r i n) e r i = (counter s e r i + n) % 2 ^ 64 := by
  simp [counter, bumpAt, bumpWord]

@[simp] theorem counter_bump_self (s : State) (e : EngineId) (r : Nat × Nat) (n : Nat) :
    counter (bump s e r n) e r 0 = (counter s e r 0 + n) % 2 ^ 64 := counter_bumpAt_self s e r 0 n

/-- Every other counter stays. -/
theorem counter_bumpAt_other (s : State) (e d : EngineId) (r q : Nat × Nat) (i j n : Nat) (h : d ≠ e ∨ q ≠ r ∨ j ≠ i) :
    counter (bumpAt s e r i n) d q j = counter s d q j := by
  by_cases hd : d = e
  · subst hd
    have hk : (q.1, q.2, j) ≠ (r.1, r.2, i) := by
      intro x
      simp only [Prod.mk.injEq] at x
      rcases h with h | h | h
      · exact h rfl
      · exact h (Prod.ext x.1 x.2.1)
      · exact h x.2.2
    simp [counter, bumpAt, bumpWord, AList.getD_set_other _ _ _ _ _ hk]
  · simp [counter, bumpAt, eng_modDict_other s e d _ hd]

@[simp] theorem gcounter_gbump_self (s : State) (r : Nat × Nat) (n : Nat) :
    gcounter (gbump s r n) r = (gcounter s r + n) % 2 ^ 64 := by
  simp [gcounter, gbump, bumpWord, State.modGDict, State.modGroup]

theorem gcounter_gbump_other (s : State) (r q : Nat × Nat) (n : Nat) (h : q ≠ r) :
    gcounter (gbump s r n) q = gcounter s q := by
  have hk : (q.1, q.2, 0) ≠ (r.1, r.2, 0) := by
    intro x
    simp only [Prod.mk.injEq] at x
    exact h (Prod.ext x.1 x.2.1)
  simp [gcounter, gbump, bumpWord, State.modGDict, State.modGroup, AList.getD_set_other _ _ _ _ _ hk]

/-- A count changes the counters of one engine's dictionary and nothing else. -/
theorem bumpAt_eng_self (s : State) (e : EngineId) (r : Nat × Nat) (i n : Nat) : (bumpAt s e r i n).eng e =
    { s.eng e with dict := { (s.eng e).dict with counters := bumpWord (s.eng e).dict.counters r i n } } := by
  simp [bumpAt]

theorem bumpAt_eng_other (s : State) (e d : EngineId) (r : Nat × Nat) (i n : Nat) (h : d ≠ e) :
    (bumpAt s e r i n).eng d = s.eng d := eng_modDict_other s e d _ h

/-! ## Event records -/

/-- A record touches the event queue and the group's counters: no engine, no tier byte, no queue of commands. -/
theorem offer_frame (s : State) (r : EventRec) : (offer s r).engines = s.engines ∧ (offer s r).tier = s.tier
    ∧ (offer s r).pending = s.pending ∧ (offer s r).time = s.time ∧ (offer s r).stepValue = s.stepValue
    ∧ (offer s r).stepValid = s.stepValid ∧ (offer s r).freeCount = s.freeCount ∧ (offer s r).group.lc = s.group.lc
    ∧ (offer s r).group.health = s.group.health ∧ (offer s r).group.coord = s.group.coord
    ∧ (offer s r).group.dict.regs = s.group.dict.regs := by
  unfold offer
  split
  · exact ⟨rfl, rfl, rfl, rfl, rfl, rfl, rfl, rfl, rfl, rfl, rfl⟩
  · split
    · exact ⟨rfl, rfl, rfl, rfl, rfl, rfl, rfl, rfl, rfl, rfl, rfl⟩
    · split
      · exact ⟨rfl, rfl, rfl, rfl, rfl, rfl, rfl, rfl, rfl, rfl, rfl⟩
      · split <;> exact ⟨rfl, rfl, rfl, rfl, rfl, rfl, rfl, rfl, rfl, rfl, rfl⟩

@[simp] theorem offer_engines (s : State) (r : EventRec) : (offer s r).engines = s.engines := (offer_frame s r).1
@[simp] theorem offer_eng (s : State) (r : EventRec) (e : EngineId) : (offer s r).eng e = s.eng e := by
  simp [State.eng]
@[simp] theorem offer_tier (s : State) (r : EventRec) : (offer s r).tier = s.tier := (offer_frame s r).2.1
@[simp] theorem offer_pending (s : State) (r : EventRec) : (offer s r).pending = s.pending := (offer_frame s r).2.2.1
@[simp] theorem offer_time (s : State) (r : EventRec) : (offer s r).time = s.time := (offer_frame s r).2.2.2.1
@[simp] theorem raise_eng (s : State) (e d : EngineId) (code sev args : Nat) : (raise s e code sev args).eng d = s.eng d := by
  simp [raise, raiseFor]
@[simp] theorem raise_tier (s : State) (e : EngineId) (code sev args : Nat) : (raise s e code sev args).tier = s.tier := by
  simp [raise, raiseFor]

/-! ## Arrival counters -/

@[simp] theorem arrival_setArrival_self (s : State) (e : EngineId) (i : Nat) (a : Arrival) : arrival (setArrival s e i a) e i = a := by
  simp [arrival, setArrival]

theorem arrival_setArrival_other (s : State) (e d : EngineId) (i j : Nat) (a : Arrival) (h : d ≠ e ∨ j ≠ i) :
    arrival (setArrival s e i a) d j = arrival s d j := by
  by_cases hd : d = e
  · subst hd
    have hj : j ≠ i := by rcases h with h | h; exacts [absurd rfl h, h]
    simp [arrival, setArrival, AList.getD_set_other _ _ _ _ _ hj]
  · simp [arrival, setArrival, eng_modIss_other s e d _ hd]

/-- An arrival adds to the counter, and keeps or sets its flag. -/
@[simp] theorem arrival_addArrival_self (s : State) (e : EngineId) (i n : Nat) (err : Bool) : arrival (addArrival s e i n err) e i =
    { value := (arrival s e i).value + BitVec.ofNat 32 n, error := (arrival s e i).error || err } := by
  simp [addArrival]

/-! ## Facets -/

@[simp] theorem facetOf_modFacet_self (s : State) (e : EngineId) (f : Nat) (g : Facet → Facet) :
    facetOf (modFacet s e f g) e f = g (facetOf s e f) := by
  simp [facetOf, modFacet]

theorem facetOf_modFacet_other (s : State) (e d : EngineId) (f h : Nat) (g : Facet → Facet) (x : d ≠ e ∨ h % 8 ≠ f % 8) :
    facetOf (modFacet s e f g) d h = facetOf s d h := by
  by_cases hd : d = e
  · subst hd
    have hf : f % 8 ≠ h % 8 := fun y => by rcases x with x | x; exacts [x rfl, x y.symm]
    simp [facetOf, modFacet, Vector.getElem_set_ne _ _ hf]
  · simp [facetOf, modFacet, eng_modIss_other s e d _ hd]

/-! ## Operations -/

/-- A change of one operation keeps the list of operation numbers. -/
theorem modOp_ids (s : State) (e : EngineId) (id : Nat) (f : Op → Op) (hf : ∀ o, (f o).id = o.id) :
    ((modOp s e id f).eng e).iss.ops.map (·.id) = (s.eng e).iss.ops.map (·.id) := by
  simp only [modOp, eng_modIss_self, List.map_map]
  apply List.map_congr_left
  intro o _
  simp only [Function.comp_apply]
  split <;> simp [hf]

/-- Launching adds one operation under a fresh number, and changes nothing but the list of those in flight. -/
theorem launch_spec (s : State) (e : EngineId) (i : RawInstr) (facet : Option (Nat × Nat)) (u : Nat) (w : Work) :
    ((launch s e i facet u w).eng e).iss.nextId = (s.eng e).iss.nextId + 1
    ∧ ((launch s e i facet u w).eng e).iss.arrivals = (s.eng e).iss.arrivals
    ∧ ((launch s e i facet u w).eng e).mem = (s.eng e).mem ∧ ((launch s e i facet u w).eng e).job = (s.eng e).job
    ∧ (∀ d, d ≠ e → (launch s e i facet u w).eng d = s.eng d) ∧ (launch s e i facet u w).tier = s.tier := by
  refine ⟨?_, ?_, ?_, ?_, fun d hd => eng_modIss_other s e d _ hd, rfl⟩ <;> simp [launch]

/-! ## Chunks on their way out -/

/-- A chunk posted joins the queue of those that wait for credit. -/
theorem post_egress (s : State) (e : EngineId) (dest : List Nat) (c : Chunk) :
    ((post s e dest c).eng e).fab.egress = (s.eng e).fab.egress ++ [{ dest := dest, chunk := c }]
    ∧ ((post s e dest c).eng e).mem = (s.eng e).mem ∧ ((post s e dest c).eng e).fab.requests = (s.eng e).fab.requests
    ∧ (∀ d, d ≠ e → (post s e dest c).eng d = s.eng d) ∧ (post s e dest c).tier = s.tier := by
  have hb : ∀ (t : State) (r : Nat × Nat) (i : Nat) (d : EngineId), ((bumpCycles t e r i).eng d).fab = (t.eng d).fab
      ∧ ((bumpCycles t e r i).eng d).mem = (t.eng d).mem ∧ (d ≠ e → (bumpCycles t e r i).eng d = t.eng d)
      ∧ (bumpCycles t e r i).tier = t.tier := by
    intro t r i d
    have hx : (bumpCycles t e r i).eng d = (bumpAt t e r i (Config.stallCycles t.freeCount)).eng d := rfl
    refine ⟨?_, ?_, fun hd => ?_, rfl⟩ <;> rw [hx]
    · by_cases hd : d = e
      · subst hd; rw [bumpAt_eng_self]
      · rw [bumpAt_eng_other _ _ _ _ _ _ hd]
    · by_cases hd : d = e
      · subst hd; rw [bumpAt_eng_self]
      · rw [bumpAt_eng_other _ _ _ _ _ _ hd]
    · exact bumpAt_eng_other _ _ _ _ _ _ hd
  unfold post
  dsimp only
  split
  · refine ⟨?_, ?_, ?_, fun d hd => ?_, ?_⟩
    · rw [(hb _ _ _ e).1]; simp
    · rw [(hb _ _ _ e).2.1]; simp
    · rw [(hb _ _ _ e).1]; simp
    · rw [(hb _ _ _ d).2.2.1 hd]; exact eng_modFab_other s e d _ hd
    · rw [(hb _ _ _ e).2.2.2]; rfl
  · refine ⟨?_, ?_, ?_, fun d hd => eng_modFab_other s e d _ hd, rfl⟩ <;> simp

/-! ## The memory-side port -/

/-- Noting requests changes the outstanding ones and their count: no byte, and nothing of another engine. -/
theorem noteReqs_frame (s : State) (e : EngineId) (cls : Nat) (op : Option Nat) (write poison : Bool) (gs : List (Nat × BitVec 64)) :
    let t := noteReqs s e cls op write poison gs
    (∃ rs, (t.eng e).mem = { (s.eng e).mem with memReqs := rs }) ∧ (t.eng e).job = (s.eng e).job ∧ (t.eng e).fab = (s.eng e).fab
    ∧ (t.eng e).reb = (s.eng e).reb ∧ (t.eng e).iss = (s.eng e).iss ∧ (∀ d, d ≠ e → t.eng d = s.eng d) ∧ t.tier = s.tier
    ∧ t.group = s.group ∧ t.time = s.time ∧ t.pending = s.pending := by
  refine ⟨?_, ?_, ?_, ?_, ?_, fun d hd => ?_, rfl, rfl, rfl, rfl⟩
  · exact ⟨issueReqs (s.eng e).mem.memReqs ((gs.filter (fun g => g.1 < stackGranules)).map (memReqOf s e cls op write poison)),
      by simp only [noteReqs]; rw [bumpAt_eng_self]; simp⟩
  all_goals simp only [noteReqs]
  · rw [bumpAt_eng_self]; simp
  · rw [bumpAt_eng_self]; simp
  · rw [bumpAt_eng_self]; simp
  · rw [bumpAt_eng_self]; simp
  · rw [bumpAt_eng_other _ _ _ _ _ _ hd]; exact eng_modMem_other s e d _ hd

/-! ## The tier port -/

/-- Granting requests changes the transfers and the turn, and nothing else. -/
theorem tierGrant_frame (s : State) : (tierGrant s).engines = s.engines ∧ (tierGrant s).tier = s.tier
    ∧ (tierGrant s).pending = s.pending ∧ (tierGrant s).time = s.time ∧ (tierGrant s).group.lc = s.group.lc
    ∧ (tierGrant s).group.dict = s.group.dict ∧ (tierGrant s).group.ev = s.group.ev
    ∧ ∃ rs n, (tierGrant s).group.coord = { s.group.coord with tierReqs := rs, tierTurn := n } := by
  unfold tierGrant
  dsimp only
  split <;> exact ⟨rfl, rfl, rfl, rfl, rfl, rfl, rfl, _, _, rfl⟩

/-- Asking for a transfer moves no byte: it touches the transfers, their numbering and the turn. -/
theorem tierAsk_frame (s : State) (e : EngineId) (cls : Nat) (layer : Nat × Nat) (addr length : Nat) (bytes : List Byte) (write : Bool)
    (after : Option Nat) (cont : TierCont) :
    let t := tierAsk s e cls layer addr length bytes write after cont
    t.engines = s.engines ∧ t.tier = s.tier ∧ t.pending = s.pending ∧ t.time = s.time ∧ t.group.dict = s.group.dict
    ∧ t.group.ev = s.group.ev ∧ t.group.coord.stepC = s.group.coord.stepC := by
  let u := s.modCoord (fun c => { c with
    tierReqs := c.tierReqs ++ [{ id := c.tierNext, engine := e.val, addr := addr, length := length, bytes := bytes, write := write,
                                 cls := cls, layer := layer, after := after, todo := List.range ((length + 63) / 64), out := [],
                                 lost := [], status := 0, cont := cont }]
    tierNext := c.tierNext + 1 })
  obtain ⟨h1, h2, h3, h4, _, h6, h7, rs, n, h8⟩ := tierGrant_frame u
  exact ⟨h1, h2, h3, h4, h6, h7, by change (tierGrant u).group.coord.stepC = _; rw [h8]; rfl⟩

/-! ## The dictionary port -/

/-- An answer changes the response and nothing else. -/
theorem respond_frame (s : State) (n : Nat) (a : Option Ans) : (respond s n a).engines = s.engines ∧ (respond s n a).tier = s.tier
    ∧ (respond s n a).group.lc = s.group.lc ∧ (respond s n a).group.ev = s.group.ev ∧ (respond s n a).group.coord = s.group.coord
    ∧ (respond s n a).pending = s.pending ∧ (respond s n a).time = s.time := ⟨rfl, rfl, rfl, rfl, rfl, rfl, rfl⟩

@[simp] theorem respond_eng (s : State) (n : Nat) (a : Option Ans) (e : EngineId) : (respond s n a).eng e = s.eng e := rfl

/-- What a scope stores after a change of it. -/
@[simp] theorem storeOf_modStore (s : State) (sc : Scope) (f : Store → Store) : storeOf (modStore s sc f) sc = f (storeOf s sc) := by
  cases sc <;> simp [storeOf, modStore, State.modGDict, State.modGroup]

@[simp] theorem groupStat_setStat_self (s : State) (sc : Scope) (g : Nat) (v : GroupStat) : groupStat (setStat s sc g v) sc g = v := by
  simp [groupStat, setStat]

theorem groupStat_setStat_other (s : State) (sc : Scope) (g h : Nat) (v : GroupStat) (x : h ≠ g) :
    groupStat (setStat s sc g v) sc h = groupStat s sc h := by
  simp [groupStat, setStat, AList.getD_set_other _ _ _ _ _ x]

/-- A change of one scope's store leaves every other engine. -/
theorem modStore_eng_other (s : State) (sc : Scope) (f : Store → Store) (d : EngineId) (h : sc ≠ some d) :
    (modStore s sc f).eng d = s.eng d := by
  cases sc with
  | none => rfl
  | some e => exact eng_modDict_other s e d _ (fun x => h (by rw [x]))

/-! ## What an event lets go on -/

/-- An absent engine does not go on by itself. -/
theorem settle_absent (s : State) (e : EngineId) (h : present s e = false) : settle s e = s := by
  simp [settle, h]

end Sys2Proof.Machine
end

