-- ==== Sys2Proof/Tests/Slice0.lean ====
section
/-!
SUPPORT. Tests: the well-formedness check refuses an ill-formed command of each kind, worked values of the spec, one small test of
each command's effect, and for every statement with hypotheses a state and operands that meet them all (`witness_<statement>`).
-/

namespace Sys2Proof.Tests

open Sys2Proof Sys2Proof.Machine Sys2Proof.Claims

set_option maxRecDepth 8000
set_option Elab.async false

/-! ## Small states -/

/-- STATE window 0 of engine 0: four rows, its panes 16 to 19, ledger, mask words and presence image behind them. -/
def hot : Window := { engine := 0, number := 0, cls := 0, base := 16, length := 4, ledger := 32, mask := 33, presence := 34 }

/-- An ARCHIVE window of engine 0, which is not coded as STATE. -/
def gradient : Window := { engine := 0, number := 1, cls := 1, base := 48, length := 4, ledger := 64, mask := 65, presence := 66 }

/-- A COLD window of engine 0, its panes in the tier. -/
def cold : Window := { engine := 0, number := 8, cls := 2, base := 0, length := 4, ledger := 8, mask := 40, presence := 41 }

def member (chip : Nat) : Member := { chip := chip, tray := chip, state := 0 }

/-- A map of one set of chips 0 to 3, with k = 2, one local and one global parity column. -/
def smallMap (ws : List Window) : StripeMap :=
  { jobId := 7, gen := 1, k := 2, g := 2, m := 1, n := 4, sets := [{ id := 0, members := [member 0, member 1, member 2, member 3] }],
    spares := [], windows := ws }

def smallJob (ws : List Window) : Job :=
  { jobId := 7, jobGen := 7, rev := 1, seed := 0, child := 0, map := smallMap ws, mapBytes := [] }

/-- Engine 0 brought up and armed in a small job as slot 0 of set 0, with these dictionary words and stack bytes. -/
def live (ws : List Window) (regs : RegFile) (hbm : Memory) : State :=
  let s := State.reset.modBring 0 (fun b => { b with position := .present, kat := true })
  let s := s.modJob 0 (fun j => { j with job := some (smallJob ws), memberSlot := 0 })
  let s := s.modDict 0 (fun d => { d with regs := regs })
  s.modMem 0 (fun m => { m with hbm := hbm })

/-- An instruction for engine 0 and counter 5 with its three words. -/
def instr (w1 w2 w3 : BitVec 64) : EngineInstr :=
  { tag := 0, target := 0, cntMode := 0, counter := 5, rsvd := 0, nonExact := false, priority := 0, chunkSignal := false,
    fenceAfter := false, fenceBefore := false, relocatable := false, stream := 0, w1 := w1, w2 := w2, w3 := w3 }

/-- A walker descriptor of `count` elements of 2^`elog` bytes, one after another from `base` (04 R122). -/
def lin (base elog count : Nat) : List Byte :=
  leBytes (put base 36 476 + put 1 3 469 + put elog 5 464 + put count 24 424 + put 1 32 392) 64

/-- A descriptor table at address 0 (04 R115). -/
def tableOf (ds : List (List Byte)) : Memory := Memory.write [] 0 ds.flatten

/-- *DESC_COUNT*, the table lying at address 0. -/
def descs (n : Nat) : RegFile := [((0x2070, 0x02, 0), n)]

/-- Four walkers of one pane each, and a pass descriptor with walker 0 in and walker 1 out. -/
def passTable : Memory := tableOf [lin 0x100000 6 64, lin 0x101000 6 64, lin 0x102000 6 64, lin 0x103000 6 64,
  leBytes (put 1 4 60) 8, zeros 184, leBytes (put 1 4 60 + put 1 16 16) 8]

/-- An engine armed with window 0 and the passes' descriptors. -/
def passState : State := live [hot] (descs 8) passTable

/-! ## From Booleans to the vocabulary of the statements -/

def issuesB (s : State) (e : EngineId) (i : RawInstr) : Bool :=
  i.body.target.toNat == e.val && present s e && streamQueue s e i.stream == [] && canIssue s e i && i.body.rsvd == 0
  && i.body.cntMode != 3 && (armed s e || runsUnarmed i)

theorem issues_of (s : State) (e : EngineId) (i : RawInstr) (h : issuesB s e i = true) : Issues s e i := by
  simp only [issuesB, Bool.and_eq_true, beq_iff_eq, bne_iff_ne, Bool.or_eq_true] at h
  obtain ⟨⟨⟨⟨⟨⟨h1, h2⟩, h3⟩, h4⟩, h5⟩, h6⟩, h7⟩ := h
  exact ⟨h1, h2, h3, h4, h5, h6, h7⟩

theorem numbered_of (s : State) (h : ∀ e : Fin 12, (s.eng e).iss.ops = [] ∧ ∀ f : Fin 8, (facetOf s e f).queue = []
    ∧ (facetOf s e f).active = none ∧ (facetOf s e f).filled = none) : Numbered s := by
  constructor
  · intro e o ho; rw [(h e).1] at ho; cases ho
  · intro b f r hr
    have hm : facetOf s b f = facetOf s b (f % 8) := by simp [facetOf]
    have := (h b).2 ⟨f % 8, Nat.mod_lt _ (by decide)⟩
    rw [hm] at hr
    simp only at this
    rw [this.1, this.2.1, this.2.2] at hr
    simp at hr
/-! ## Ill-formed commands, one for each check -/

def illChunk (kind : BitVec 6) (length : BitVec 9) (payload : List Byte) : Chunk :=
  { crc := 0, jobId := 7, mapGen := 1, dstChip := 0, dstEngine := 0, srcChip := 1, srcEngine := 0, vc := 0, kind := kind, status := 0,
    seq := 0, tag := 0, length := length, place := 0, step := 0, ext := 0, payload := payload }

/-- A chunk of another kind than each receiving row names. -/
theorem test_wf_kind : (let c := illChunk 0x3f 1 [0]
    [Instr.deltaReceive 0 c, .deltaAckReceive 0 c, .accumWriteReceive 0 c, .gparityReceive 0 c, .gparityAckReceive 0 c,
     .coldParityReceive 0 c, .dreadReqChain 0 c, .dreadReqGather 0 c, .dreadReqRelease 0 c, .dreadRespReceive 0 c,
     .rebuildSumReceive 0 c, .rebuildSumHandoff 0 c, .rebuildSumRepair 0 c, .rebuildAckReceive 0 c, .mirrorReqSegment 0 c,
     .mirrorReqDigest 0 c, .mirrorReqNode 0 c, .mirrorReqArbitrate 0 c, .mirrorReqFromMirror 0 c, .mirrorRespReceive 0 c,
     .restoreXferReceive 0 c, .sAckReceive 0 c, .nakReceive 0 c, .nakStaleGen 0 c, .nakAbsent 0 c, .nakRefused 0 c,
     .resendReceive 0 c].all (fun i => i.wf == false)) = true := by decide

/-- A chunk whose LENGTH is not the bytes it carries, and one of more than 256 bytes. -/
theorem test_wf_length : (Instr.deltaReceive 0 (illChunk 0x01 2 [0])).wf = false
    ∧ (Instr.stubFabricRequest 0 (illChunk 0x10 2 [0])).wf = false ∧ (Instr.deltaReceive 0 (illChunk 0x01 257 (zeros 257))).wf = false
    ∧ (Instr.deltaReceive 0 (illChunk 0x01 1 [0])).wf = true := by decide +kernel

/-- A write whose LENGTH is not its DATA, a read that carries data, and a LENGTH above 256. -/
theorem test_wf_txn : (Instr.registerWrite { op := 1, engineSel := 0, index := 0x2000, sub := 1, segment := 0, length := 4, data := [0] }).wf
      = false
    ∧ (Instr.registerWrite { op := 0, engineSel := 0, index := 0x2000, sub := 1, segment := 0, length := 1, data := [0] }).wf = false
    ∧ (Instr.blobSegmentWrite { op := 0, engineSel := 0, index := 0x2000, sub := 1, segment := 0, length := 257, data := [] }).wf = false
    ∧ (Instr.registerWrite { op := 1, engineSel := 0, index := 0x2000, sub := 1, segment := 0, length := 1, data := [0] }).wf = true := by
  decide

/-- A granule of 63 bytes. -/
theorem test_wf_granule : (Instr.codedWrite 0 0 [0] (zeros 63)).wf = false ∧ (Instr.tapWrite 0 0 0 (zeros 65)).wf = false
    ∧ (Instr.codedWrite 0 0 [] []).wf = false ∧ (Instr.codedWrite 0 63 [0, 0] (zeros 128)).wf = false
    ∧ (Instr.codedWrite 0 62 [0, 0] (zeros 128)).wf = true := by decide +kernel

/-- Data of more than one segment. -/
theorem test_wf_segment : (Instr.mapStage 0 0 (zeros 257)).wf = false ∧ (Instr.ringImport 0 0 (zeros 257)).wf = false
    ∧ (Instr.jobBlob 0 0 (zeros 257)).wf = false ∧ (Instr.jobArm 0 0 (zeros 257)).wf = false
    ∧ (Instr.ledgerPeekWrite 0 (zeros 257)).wf = false ∧ (Instr.authServiceUnlock 0 (zeros 257)).wf = false
    ∧ (Instr.authReturn 0 (zeros 257)).wf = false ∧ (Instr.mapStage 0 0 (zeros 256)).wf = true := by decide +kernel

/-! ## Values the spec works out -/

/-- 03, "Example — one multiplication". -/
theorem test_gf_product : gfMul 0xd8 0x35 = 0x9c ∧ gfInv 0x10 = 0xd8 ∧ gfPow 0x02 35 = 0x9c := by decide +kernel

/-- 03, "Worked row": the placement of row 37 and its parity bytes. -/
theorem test_row37_slots : [0, 1, 5, 6, 7, 11, 15, 16, 17, 18, 19].map (Geo.default.slotOf 37) = [17, 18, 2, 3, 4, 8, 12, 13, 14, 15, 16]
    ∧ Geo.default.columnOf 38 3 = 5 := by decide +kernel

theorem test_row37_parity : [16, 17, 18, 19].map (fun p =>
    gfMul (Geo.default.at p 1) 0x35 ^^^ gfMul (Geo.default.at p 6) 0x02 ^^^ gfMul (Geo.default.at p 11) 0x9c)
    = [0x37, 0x9c, 0x1f, 0x67] := by decide +kernel

/-- 04, "Example — the survivor list of row 37", and the worked decode of 03 over it: columns 11, P_0 and Q_0 are not zero. -/
theorem test_row37_survivors : survivors Geo.default (2 ^ 1 + 2 ^ 6) = some [0, 2, 3, 4, 5, 7, 8, 9, 10, 11, 12, 13, 14, 15, 16, 18] := by
  decide +kernel

theorem test_row37_decode : (decodeRow Geo.default (2 ^ 1 + 2 ^ 6) 6).map (fun d =>
    (d.zip [0, 0, 0, 0, 0, 0, 0, 0, 0, (0x9c : Byte), 0, 0, 0, 0, 0x37, 0x1f]).foldl (fun a p => a ^^^ gfMul p.1 p.2) 0)
    = some (0x02 : Byte) := by decide +kernel

/-- 02, "Example — two weights rounded to BF16". -/
theorem test_round_words : roundWord 0 0 0 0 = 0x6627e8d5 ∧ roundWord 0 0 0 1 = 0xe169c58d := by decide +kernel

theorem test_round_bf16 : (fmtBf16.encode (.stochastic 0x6627e8d5) (F32.val 0x3f804000)).code = 0x3f80
    ∧ (fmtBf16.encode (.stochastic 0xe169c58d) (F32.val 0x3f804000)).code = 0x3f81
    ∧ (fmtBf16.encode .rne (F32.val 0x3f804000)).code = 0x3f80 := by decide +kernel

/-- 02 R73: a block whose largest input is 5.0. -/
theorem test_mx_scale : mxScale 0x0d (0x40a00000 :: List.replicate 31 0) = 0x7f
    ∧ (fmtE2M1.encode .rne (F32.val 0x40a00000)).code = 0x6 := by decide +kernel

/-- 02, "Example — encoding part of a G16S tile": 0.75, and the step to the next exponent at 0.99999 (0x3f7fff58). -/
theorem test_g16 : (let q := encodeG16 ([F32.val 0x3f400000, F32.val 0x3e99999a, F32.val 0xba83126f] ++ List.replicate 61 (Val.fin false 0 0))
      (q.1, q.2.1.take 3) = (0x7e, [0x6000, 0x2666, 0xffdf]))
    ∧ (let q := encodeG16 ([F32.val 0x3f7fff58, F32.val 0x3e99999a, F32.val 0xba83126f] ++ List.replicate 61 (Val.fin false 0 0))
      (q.1, q.2.1.take 3) = (127, [0x4000, 4915, 65520])) := by decide +kernel

/-- 02 R76 and R77. -/
theorem test_log8 : [0xc4, 0xc8, 0xc9, 0xcc].map logT = [0x3f000000, 0x3f800000, 0x3f9837f0, 0x40000000]
    ∧ (encodeLog8 0x3f8ccccd).code = 0xc9 := by decide +kernel

/-- 05, "Example — one element, three contributions, two orders". -/
theorem test_accum_elem : addElem true 24576 32 0 0 = (0x600000000000, 0, false, false)
    ∧ addElem true 7 (-4) 0x600000000000 0 = (0x600000000000, 0x380000000000, false, false)
    ∧ addElem true (-9830) 33 0x600000000000 0x380000000000 = (0x133400000000, 0x380000000000, false, false)
    ∧ (addElem false 7 (-4) 0 0).2.2 = (false, true) ∧ (addElem true 0x4000 35 0 0).2.2.1 = true := by decide +kernel

/-- 12, "Example — the grouped decode as an instruction". -/
theorem test_instr_fields : (let i := parseInstr 0x002a5150c3064910 0x120 0x0000011001400008 0x0000200000000040
    (i.op, i.body.tag.toNat, i.body.target.toNat, i.body.cntMode.toNat, i.body.counter.toNat) = (0x10, 0x2a51, 5, 0, 195)
    ∧ (i.body.priority.toNat, i.body.chunkSignal, i.body.relocatable, i.stream) = (1, true, true, 9)
    ∧ (i.firstRow, i.rowStep, i.panes, i.window) = (17, 20, 8, 0)
    ∧ parseCoeff (i.f3 47 0) = { kind := 2, outFirst := 0, erased := 0x40 }) := by decide +kernel

/-- 14, "Example — a thermal margin tips the score", with the default curves. -/
theorem test_risk_weights : (let w := fun i v => riskWeight (blobIn [] regRiskCurve.1 (regRiskCurve.2 + i)) v
    [w 0 20, w 1 400, w 2 80, w 2 30, w 3 1, w 4 1, w 5 0] = [12, 22, 28, 72, 30, 6, 0]) := by decide +kernel

/-- A byte overwritten with zero reads as zero and leaves no entry (log 2). -/
theorem test_memory_overwrite : (Memory.write (Memory.write [] 8 [1, 2, 3]) 9 [0]).read 7 5 = [0, 1, 0, 3, 0]
    ∧ Memory.write (Memory.write [] 8 [5]) 8 [0] = [] := by decide

/-- 06, "Example — a clipped step": the squares, GNORM and CLIP. -/
theorem test_clipped_step : gridSquare 16384 (128 - 141) (normGrid 0x7f) = (0x400000000000000000000, false)
    ∧ gridSquare 24576 (127 - 141) (normGrid 0x7f) = (0x240000000000000000000, false)
    ∧ (Val.fin false 0x640000000000000000000 (normGrid 0x7f)).sqrt.f32 = 0x40200000
    ∧ F32.div 0x3f800000 0x40200000 = 0x3ecccccd ∧ F32.mul 0x40000000 0x3ecccccd = 0x3f4ccccd := by decide +kernel

/-- 06, "Example — suppression of one segment": 103 bytes that are not zero travel in 135. -/
theorem test_segment_masked : (deltaPayload (List.replicate 103 1 ++ zeros 153)).map List.length = some 135 := by decide +kernel

/-- 11, "Example — one bit in one weight": row 37 is data-pane index 29 of slot 3. -/
theorem test_data_pane_index : dataIndexOf Geo.default 3 37 = 29 := by decide +kernel
/-! ## Witnesses: issue and the passes -/

theorem witness_ControlInstructions :
    Numbered passState ∧ Issues passState 0 (rowInstr 0x00 (instr 0 0 0) 0 0) ∧ Issues passState 0 (rowInstr 0x01 (instr 0 9 0) 0 0)
    ∧ (rowInstr 0x01 (instr 0 9 0) 0 0).f2 31 0 ≠ 0 ∧ (rowInstr 0x01 (instr 0 9 0) 0 0).f2 63 32 = 0
    ∧ (let x := facetOf passState 0 (homeFacet (issued passState 0 (rowInstr 0x01 (instr 0 9 0) 0 0)) 0 0)
       x.queue = [] ∧ x.active = none ∧ x.isolated = false)
    ∧ Issues passState 0 (rowInstr 0x02 (instr 0 0 0) 1 0) ∧ Issues passState 0 (rowInstr 0x02 (instr 0 0 0) 1 1) :=
  ⟨numbered_of _ (by decide +kernel), issues_of _ _ _ (by decide +kernel), issues_of _ _ _ (by decide +kernel), by decide +kernel,
   by decide +kernel, by decide +kernel, issues_of _ _ _ (by decide +kernel), issues_of _ _ _ (by decide +kernel)⟩

/-- The walk of the pass descriptors' walker `n`. -/
def paneWalk (n : Nat) : Walk := { base := 0x100000 + 4096 * n, elog := 6, dims := [(64, 1, 0, 1)] }

theorem witness_PassesStart_prism : let b := instr 4 1 0
    let i := rowInstr 0x10 b 0 0
    let u := issued passState 0 i
    let bs := (descEntries u 0 4 4).getD []
    Issues passState 0 i ∧ passReserved i = false ∧ i.f1 31 16 = 0 ∧ i.f1 15 0 = 4 ∧ i.window = 0 ∧ i.f3 49 48 = 0
    ∧ coeffStatus (geo u 0) (parseCoeff (i.f3 47 0)) = none ∧ i.panes ≠ 0 ∧ descReadable u 0 4 4 = true
    ∧ descEntries u 0 4 4 = some bs
    ∧ ((parsePass bs).take 24).mapM (inBinding u 0 i.panes) = some (.mem (paneWalk 0) :: List.replicate 23 .zero)
    ∧ ((parsePass bs).drop 24).mapM (outBinding u 0 i.panes) = some (.mem (paneWalk 1) :: List.replicate 7 .discard)
    ∧ (OutBind.mem (paneWalk 1) :: List.replicate 7 .discard).all (fabricOk u 0) = true ∧ armed u 0 = true := by
  refine ⟨issues_of _ _ _ ?_, ?_, ?_, ?_, ?_, ?_, ?_, ?_, ?_, ?_, ?_, ?_, ?_, ?_⟩ <;> decide +kernel

theorem witness_PassesStart_encode : let i := rowInstr 0x11 (instr 0x20000 1 0x100000000000) 0 0
    let u := issued passState 0 i
    let c := parseCoeff (i.f3 47 0)
    Issues passState 0 i ∧ passReserved i = false ∧ i.window = 0 ∧ i.f3 49 49 = 0 ∧ c.kind = 1 ∧ coeffStatus (geo u 0) c = none
    ∧ i.panes ≠ 0 ∧ i.f1 15 0 + 2 ≤ reg u 0 regDescCount ∧ (geo u 0).k = 2 ∧ encodeRows (geo u 0) c = 2
    ∧ i.f1 31 16 + 2 ≤ reg u 0 regDescCount ∧ descReadable u 0 (i.f1 15 0) 2 = true ∧ descReadable u 0 (i.f1 31 16) 2 = true
    ∧ passWalkers u 0 (i.f1 15 0) 2 i.panes = some [paneWalk 0, paneWalk 1]
    ∧ passWalkers u 0 (i.f1 31 16) 2 i.panes = some [paneWalk 2, paneWalk 3] := by
  refine ⟨issues_of _ _ _ ?_, ?_, ?_, ?_, ?_, ?_, ?_, ?_, ?_, ?_, ?_, ?_, ?_, ?_, ?_⟩ <;> decide +kernel

theorem witness_PassesStart_delta : let i := rowInstr 0x12 (instr 0 1 0) 0 0
    let u := issued passState 0 i
    Issues passState 0 i ∧ passReserved i = false ∧ i.f1 31 16 = 0 ∧ i.f3 49 0 = 0 ∧ rowsOk u 0 i = true ∧ windowClass u 0 i = 0
    ∧ i.panes ≠ 0 ∧ i.f1 15 0 < reg u 0 regDescCount ∧ descReadable u 0 (i.f1 15 0) 1 = true
    ∧ passWalker u 0 (i.f1 15 0) i.panes = some (paneWalk 0) := by
  refine ⟨issues_of _ _ _ ?_, ?_, ?_, ?_, ?_, ?_, ?_, ?_, ?_, ?_⟩ <;> decide +kernel

theorem witness_PassesStart_decode : let i := rowInstr 0x13 (instr 0x20000 1 0x200000000001) 0 0
    let u := issued passState 0 i
    let c := parseCoeff (i.f3 47 0)
    Issues passState 0 i ∧ passReserved i = false ∧ i.f1 15 0 = 0 ∧ i.f3 49 49 = 0 ∧ c.kind = 2 ∧ rowsOk u 0 i = true
    ∧ coeffStatus (geo u 0) c = none ∧ i.panes ≠ 0 ∧ decodeRows (geo u 0) c = 1 ∧ i.f1 31 16 + 1 ≤ reg u 0 regDescCount
    ∧ descReadable u 0 (i.f1 31 16) 1 = true ∧ (∃ cols, survivors (geo u 0) c.erased = some cols)
    ∧ passWalkers u 0 (i.f1 31 16) 1 i.panes = some [paneWalk 2] := by
  refine ⟨issues_of _ _ _ ?_, ?_, ?_, ?_, ?_, ?_, ?_, ?_, ?_, ?_, ?_, Option.isSome_iff_exists.1 ?_, ?_⟩ <;> decide +kernel

theorem witness_RowOperationsStart_rebuild : let i := rowInstr 0x14 (instr 0 1 0x300000000001) (2 ^ 48) 0
    let u := issued passState 0 i
    let c := parseCoeff (i.f3 47 0)
    Issues passState 0 i ∧ passReserved i = false ∧ i.f1 31 0 = 0 ∧ i.f3 49 49 = 0 ∧ rowsOk u 0 i = true ∧ windowClass u 0 i ≠ 1
    ∧ c.kind = 3 ∧ c.outFirst = 0 ∧ c.erased / 2 ^ (geo u 0).n = 0 ∧ (survivors (geo u 0) c.erased).isSome = true ∧ i.panes ≠ 0 := by
  refine ⟨issues_of _ _ _ ?_, ?_, ?_, ?_, ?_, ?_, ?_, ?_, ?_, ?_, ?_⟩ <;> decide +kernel

theorem witness_RowOperationsStart_drill : let i := rowInstr 0x14 (instr 0x20000 1 0x300000000001) (2 ^ 48) (2 ^ 48)
    let u := issued passState 0 i
    let c := parseCoeff (i.f3 47 0)
    Issues passState 0 i ∧ passReserved i = false ∧ i.f1 15 0 = 0 ∧ rowsOk u 0 i = true ∧ i.f1 31 16 < reg u 0 regDescCount
    ∧ c.kind = 3 ∧ c.outFirst = 0 ∧ c.erased / 2 ^ (geo u 0).n = 0 ∧ (survivors (geo u 0) c.erased).isSome = true ∧ i.panes ≠ 0
    ∧ descReadable u 0 (i.f1 31 16) 1 = true ∧ passWalker u 0 (i.f1 31 16) i.panes = some (paneWalk 2) := by
  refine ⟨issues_of _ _ _ ?_, ?_, ?_, ?_, ?_, ?_, ?_, ?_, ?_, ?_, ?_, ?_⟩ <;> decide +kernel

theorem witness_RowOperationsStart_verify : ∀ m ∈ [0, 2 ^ 48],
    let i := rowInstr 0x15 (instr 0 1 0) (2 ^ 48) m
    let u := issued passState 0 i
    issuesB passState 0 i = true ∧ passReserved i = false ∧ i.f1 31 0 = 0 ∧ i.f3 47 0 = 0 ∧ i.f3 49 49 = 0 ∧ rowsOk u 0 i = true
    ∧ i.panes ≠ 0 := by decide +kernel

theorem witness_DigestsAndCopies_digest : ∀ tree : Bool,
    let i := rowInstr 0x40 (instr 0x10000 1 0) 3 (if tree then 1 else 0)
    let u := issued passState 0 i
    Numbered passState ∧ Issues passState 0 i ∧ i.f1 63 32 = 0 ∧ i.f2 63 24 = 0 ∧ i.f3 63 3 = 0 ∧ i.f3 2 2 = 0 ∧ i.f2 23 0 = 1
    ∧ i.f1 15 0 < reg u 0 regDescCount ∧ i.f1 31 16 < reg u 0 regDescCount ∧ descReadable u 0 (i.f1 15 0) 1 = true
    ∧ descReadable u 0 (i.f1 31 16) 1 = true ∧ passWalker u 0 (i.f1 15 0) 1 = some (paneWalk 0)
    ∧ walker u 0 (i.f1 31 16) = some (paneWalk 1) ∧ digestBytes tree (i.f3 2 2 == 1) 1 ≤ (paneWalk 1).bytes := by
  intro tree
  refine ⟨numbered_of _ (by decide +kernel), issues_of _ _ _ ?_, ?_⟩ <;> revert tree <;> decide +kernel

/-- The ring stands at pane 3, and tap 1 covers two panes from pane 0x100. -/
def tapState : State := live [] [((0x6020, 0x05, 0), 3), ((0x6020, 0x02, 0), 2 ^ 63 + put 0x100 24 24 + 2)] []

theorem witness_DigestsAndCopies_tapclose : let i := rowInstr 0x40 (instr 0 0 0x500000010) 3 2
    let u := issued tapState 0 i
    Issues tapState 0 i ∧ Issues passState 0 i ∧ i.f3 31 6 = 0 ∧ i.f3 3 2 = 0 ∧ (tapEntry u 0 (i.f3 5 4)).1 = true
    ∧ reg u 0 regTapRingBase = 3 ∧ (tapState.eng 0).mem.hbm.wf = true ∧ reg (issued passState 0 i) 0 regTapRingBase = 0
    ∧ reg u 0 regTapRingBase * 4096 + 64 * (i.f3 63 32 % 1024 * 4 + i.f3 5 4) + 64 ≤ stackBytes := by
  refine ⟨issues_of _ _ _ ?_, issues_of _ _ _ ?_, ?_, ?_, ?_, ?_, ?_, ?_, ?_⟩ <;> decide +kernel

/-- NON_EXACT is set where an instruction adds in FP32. -/
def nonExactInstr (w1 w2 w3 : BitVec 64) : EngineInstr := { instr w1 w2 w3 with nonExact := true }

def copyState : State := live [hot] (descs 2) (tableOf [lin 0x100000 2 1024, lin 0x101000 2 1024])

theorem witness_DigestsAndCopies_copy : ∀ m ∈ [0, 2],
    let i := rowInstr 0x08 (nonExactInstr 0x10000 1 0) 3 m
    let u := issued copyState 0 i
    let src : Walk := { base := 0x100000, elog := 2, dims := [(1024, 1, 0, 1)] }
    let dst : Walk := { base := 0x101000, elog := 2, dims := [(1024, 1, 0, 1)] }
    issuesB copyState 0 i = true ∧ i.f1 63 32 = 0 ∧ i.f2 63 32 = 0 ∧ i.f3 63 2 = 0 ∧ i.f2 31 0 = 1
    ∧ nonExact u 0 i = true ∧ i.f1 15 0 < reg u 0 regDescCount ∧ i.f1 31 16 < reg u 0 regDescCount ∧ descReadable u 0 (i.f1 15 0) 1 = true
    ∧ descReadable u 0 (i.f1 31 16) 1 = true ∧ passWalker u 0 (i.f1 15 0) 1 = some src ∧ passWalker u 0 (i.f1 31 16) 1 = some dst
    ∧ walkTouches u 0 dst 1 = false ∧ walkTouchesAcc u 0 dst 1 = false ∧ src.elog = 2 ∧ dst.elog = 2 := by decide +kernel

/-- Eight bytes from `base`. -/
def shortWalk (base : Nat) : Walk := { base := base, elog := 2, dims := [(2, 1, 0, 1)] }

def lastRow (i : RawInstr) (facet : Option (Nat × Nat)) (w : Work) : State :=
  (copyState.modIss 0 (fun x => { x with ops := [opOf copyState 0 i facet 1 w], nextId := 1 })).modIss 0 (fun x =>
    { x with facets := x.facets.map (fun f => { f with active := some { home := 0, op := 0 } }) })

theorem witness_DigestsAndCopies_rows : ∀ flag : Bool,
    let s := lastRow (rowInstr 0x08 (nonExactInstr 0x10000 1 0) 3 0) none (.copy (shortWalk 0x100000) (shortWalk 0x101000) 1 flag 0)
    let t := lastRow (rowInstr 0x40 (instr 0x10000 1 0) 3 (if flag then 1 else 0)) (some (0, 0))
      (.digest (shortWalk 0x100000) (paneWalk 2) 1 flag false [] 0)
    (findOp s 0 0).isSome = true ∧ opBusy s 0 0 = false ∧ PlainRow s 0 (shortWalk 0x100000) 0 ∧ PlainRow s 0 (shortWalk 0x101000) 0
    ∧ (shortWalk 0x101000).rowInside 0 = true ∧ (findOp t 0 0).map (isActive t 0) = some true ∧ opBusy t 0 0 = false
    ∧ PlainRow t 0 (shortWalk 0x100000) 0 ∧ digestWaits t 0 (shortWalk 0x100000) 0 = false
    ∧ partsStatus t 0 ((paneWalk 2).parts 0 32) = 0 := by
  unfold PlainRow; decide +kernel
/-! ## Witnesses: accumulation and the operations of a step -/

/-- The slot that the group descriptor of `stepState` opens in step 1. -/
def smallSlot : AccSlot :=
  { AccSlot.init with state := .opened, step := 1, mapGen := 1, lastStep := 1, openedGens := [(1, 1)], accBase := 0x80000,
                      elements := 256, anchor := 127 }

/-- Descriptors: 0 a group of 256 elements, 1 and 2 an object of one FP32 field at pane 16 with its gradient at pane 48, 3 and 4
the mantissas and exponents of a tile. The step ring begins at 0x4000 and holds the record of step 1. -/
def stepTable : Memory := Memory.write (tableOf [
    leBytes (put 0x80000 36 476 + put 0xe 4 472 + put 256 30 434 + put 127 8 426) 64,
    leBytes (put 256 30 178 + put 1 4 170 + put 0x30000 36 132) 32 ++ leBytes (put 0x10000 36 60) 12 ++ zeros 84,
    lin 0x100000 0 128, lin 0x101000 0 64]) 0x4100 (leBytes 1 4)

/-- Five descriptors, an accumulation region, the step ring at 0x4000, a program 0 that ends at once. -/
def stepRegs : RegFile := descs 5 ++ [((0x5010, 0x01, 0), 0x80000), ((0x5010, 0x02, 0), 0x80000), ((0x4010, 0x04, 0), 4),
  ((0x4020, 0x01, 0), 0x8100)]

def stepState : State := { live [hot, gradient] stepRegs stepTable with stepValue := 1, stepValid := true }

/-- The same with slot 0 as it is given. -/
def slotState (a : AccSlot) : State := stepState.modJob 0 (fun j => { j with slots := [(0, a)] })

theorem witness_AccumulationInstructions_accopen : let i := rowInstr 0x20 (instr 0 0 0x100000000) 0 0
    let u := issued stepState 0 i
    Issues stepState 0 i ∧ i.f1 63 16 = 0 ∧ i.f3 31 6 = 0 ∧ i.f1 15 0 < reg u 0 regDescCount ∧ descReadable u 0 (i.f1 15 0) 1 = true
    ∧ parseGroup u 0 (i.f3 5 0) (i.f3 63 32) ((descEntry u 0 (i.f1 15 0)).getD []) = some smallSlot
    ∧ canOpen u 0 (i.f3 5 0) smallSlot = true ∧ (stepState.eng 0).job.openSeq < 2 ^ 32 := by
  refine ⟨issues_of _ _ _ ?_, ?_, ?_, ?_, ?_, ?_, ?_, ?_⟩ <;> decide +kernel

theorem witness_AccumulationInstructions_accum : let s := slotState smallSlot
    let i := rowInstr 0x21 (instr 0x40003 1 0) 0 0
    let u := issued s 0 i
    let mw : Walk := { base := 0x100000, elog := 0, dims := [(128, 1, 0, 1)] }
    let ew : Walk := { base := 0x101000, elog := 0, dims := [(64, 1, 0, 1)] }
    Issues s 0 i ∧ i.f1 63 32 = 0 ∧ i.f2 63 62 = 0 ∧ i.f2 31 24 = 0 ∧ i.f3 63 6 = 0 ∧ i.f2 61 32 % 64 = 0 ∧ i.f2 23 0 = 1
    ∧ i.f1 31 16 < reg u 0 regDescCount ∧ i.f1 15 0 < reg u 0 regDescCount ∧ descReadable u 0 (i.f1 31 16) 1 = true
    ∧ descReadable u 0 (i.f1 15 0) 1 = true ∧ walker u 0 (i.f1 15 0) = some mw ∧ walker u 0 (i.f1 31 16) = some ew
    ∧ (accSlot s 0 (i.f3 5 0)).state = .opened ∧ i.f2 61 32 + 64 * 1 ≤ (accSlot s 0 (i.f3 5 0)).elements ∧ 128 ≤ mw.bytes ∧ 1 ≤ ew.bytes
    ∧ (s.eng 0).iss.ops = [] := by
  refine ⟨issues_of _ _ _ ?_, ?_, ?_, ?_, ?_, ?_, ?_, ?_, ?_, ?_, ?_, ?_, ?_, ?_, ?_, ?_, ?_, ?_⟩ <;> decide +kernel

/-- An ACCCLOSE that expects 0, 3 and 9 tiles of a slot that has absorbed 3. -/
theorem witness_ClosingGroups_accclose : let s := slotState { smallSlot with absorbed := 3 }
    (accSlot s 0 0).state = .opened ∧ (accSlot s 0 0).absorbed = 3 ∧ (s.eng 0).iss.ops = [] ∧ buffered s 0 (accSlot s 0 0) = [] ∧ ∀ x ∈ [0, 2, 3, 9],
      let i := rowInstr 0x22 (instr 0 (BitVec.ofNat 64 x) 0) 0x100 0
      issuesB s 0 i = true ∧ i.f2 31 0 = x ∧ i.f2 63 32 = 0 ∧ i.f3 63 9 = 0 ∧ i.f3 7 6 = 0 ∧ i.f3 5 0 = 0 := by decide +kernel

theorem witness_ClosingGroups_discard : let s := slotState smallSlot
    let i := rowInstr 0x22 (instr 0 0 0) 0x100 0x100
    Issues s 0 i ∧ i.f2 63 32 = 0 ∧ i.f3 63 9 = 0 ∧ i.f3 7 6 = 0 := by
  refine ⟨issues_of _ _ _ ?_, ?_, ?_, ?_⟩ <;> decide +kernel

/-- An engine-0 operation of this instruction with work `w`. -/
def anOp (i : RawInstr) (w : Work) : Op :=
  { id := 0, ins := i, facet := none, units := 0, total := 1, causes := [], raised := false, info := 0, autofill := false, work := w }

/-- The state with operations in flight, numbered below 9. -/
def withOps (s : State) (ops : List Op) : State := s.modIss 0 (fun q => { q with ops := ops, nextId := 9 })

theorem witness_ClosingGroups_timeout : let s := withOps (slotState smallSlot) [anOp (rowInstr 0x22 (instr 0 9 0) 0x100 0) (.closing 0 9)]
    (∃ o ∈ (s.eng 0).iss.ops, ∃ x, o.work = .closing 0 x) ∧ (accSlot s 0 0).state = .opened :=
  ⟨⟨anOp (rowInstr 0x22 (instr 0 9 0) 0x100 0) (.closing 0 9), by decide +kernel, 9, by decide +kernel⟩, by decide +kernel⟩

/-- SEAL of an empty and of a filled slot, closed whole. -/
theorem witness_SealSeals : ∀ empty : Bool,
    let s := slotState { smallSlot with state := .closed, empty := empty }
    let i := rowInstr 0x23 (instr 1 0 0x100000000) 0 0
    let u := issued s 0 i
    issuesB s 0 i = true ∧ i.f1 63 16 = 0 ∧ i.f3 31 6 = 0 ∧ i.f1 15 0 + 2 ≤ reg u 0 regDescCount
    ∧ descReadable u 0 (i.f1 15 0) 2 = true ∧ (objAt u 0 (i.f1 15 0)).any (fun o => sealAllowed u 0 o (accSlot s 0 (i.f3 5 0)) (i.f3 63 32)) = true
    ∧ (accSlot s 0 (i.f3 5 0)).incomplete = false ∧ (accSlot s 0 (i.f3 5 0)).damaged = false
    ∧ (accSlot s 0 (i.f3 5 0)).empty = empty ∧ (sealFetch u 0 (accSlot s 0 (i.f3 5 0))).2 = true := by decide +kernel

/-- NORM in both modes of step 1, with the record at 0x6000, which the DECIDE names as job 7's. -/
def normState : State := stepState.modMem 0 (fun m => { m with hbm := m.hbm.write 0x6000 (leBytes (put 1 32 224 + put 7 16 208) 32) })

theorem witness_NormInstructions : ∀ m ∈ [0, 1],
    let i := rowInstr 0x28 (instr 0x6000 0 0x100000000) 1 m
    let u := issued normState 0 i
    let a := i.f1 35 0
    issuesB normState 0 i = true ∧ normRefused u 0 i = none ∧ (normState.eng 0).mem.hbm.wf = true ∧ a + 32 ≤ stackBytes
    ∧ readable u 0 a 32 = true ∧ (normState.eng 0).lou.faults = [] ∧ bits (leNat (hbm u 0 a 32)) 255 224 = i.f3 63 32
    ∧ bits (leNat (hbm u 0 a 32)) 223 208 = (jobIdOf u 0).toNat := by decide +kernel

/-- `stepState` with object 0 managed: its residency word is the first of pane 16 and its home lies in window 8. -/
def tierState (word : Nat) : State :=
  let s := stepState.modDict 0 (fun d => { d with regs := d.regs ++ [((0x7020, 0x01, 0), 0), ((0x7020, 0x02, 0), 0),
    ((0x7030, 0x01, 0), put 1 1 255 + put 2 20 101 + put 1 24 160 + put 8 4 248)] })
  s.modMem 0 (fun m => { m with presence := [(0, 0)], hbm := m.hbm.write 0x10000 (leBytes word 8) })

/-- SWEEP and APPLYPEND of the object, whose step 1 has been sealed: at once, and waiting while the object is moved up. -/
theorem witness_LaneOperationsStart : ∀ pend : Bool,
    let s := if pend then tierState (put stUp 2 30) else stepState
    let s := s.modJob 0 (fun j => { j with seals := [{ object := 0, step := 1, outcome := if pend then 2 else 0 }] })
    let i := rowInstr (if pend then 0x3a else 0x30) (instr 1 (if pend then 0 else 256) 0x100000000) 0 0
    let u := issued s 0 i
    let step := i.f3 63 32
    let first := if pend then 0 else i.f2 61 32
    issuesB s 0 i = true ∧ i.f1 63 16 = 0 ∧ i.f3 31 0 = 0 ∧ i.f1 15 0 + 2 ≤ reg u 0 regDescCount
    ∧ (if pend then i.body.w2 = 0 else i.f2 63 62 = 0 ∧ i.f2 31 30 = 0 ∧ first % 256 = 0 ∧ i.f2 29 0 % 256 = 0 ∧ i.f2 29 0 ≠ 0)
    ∧ descReadable u 0 (i.f1 15 0) 2 = true ∧ (descEntries u 0 (i.f1 15 0) 2).isSome = true ∧ stepReadable u 0 step = true
    ∧ (stepBytes u 0 step).any (fun rb => (parseStep rb).decision != 2) = true
    ∧ (objAt u 0 (i.f1 15 0)).any (fun o => o.elements != 0
        && !rangeRefused u 0 o step first (if pend then o.elements else i.f2 29 0) pend && !programBad u 0 step o
        && (!pend || sealOutcome u 0 o step == 2)
        && (match laneMode u 0 o step pend with | .done _ => false | _ => true)) = true := by decide +kernel

theorem witness_LaneOperationsStart_numbered : Numbered (tierState (put stUp 2 30)) ∧ Numbered stepState ∧ Numbered (tierState (put stCold 2 30)) := by
  refine ⟨numbered_of _ ?_, numbered_of _ ?_, numbered_of _ ?_⟩ <;> decide +kernel

theorem witness_CommitInstructions_commit : ∀ quiesce : Bool,
    let i := rowInstr 0x31 (instr 0 0 0x100000000) 3 (if quiesce then 2 else 0)
    let u := issued stepState 0 i
    issuesB stepState 0 i = true ∧ i.f3 31 2 = 0 ∧ stepState.stepValue.toNat = i.f3 63 32
    ∧ i.f3 63 32 ≤ (stepState.eng 0).job.committed + 1 ∧ (stepState.eng 0).job.committed < i.f3 63 32
    ∧ (stepBytes u 0 (i.f3 63 32)).isSome = true ∧ (mapOf u 0).any (fun m => !m.members.any (·.state == 2)) = true := by
  decide +kernel

theorem witness_CommitInstructions_abort : let i := rowInstr 0x31 (instr 0 0 0x100000000) 3 1
    let u := issued stepState 0 i
    Issues stepState 0 i ∧ i.f3 31 2 = 0 ∧ stepState.stepValue.toNat = i.f3 63 32 ∧ (stepState.eng 0).job.committed < i.f3 63 32
    ∧ decidedToApply u 0 (i.f3 63 32) = false := by
  refine ⟨issues_of _ _ _ ?_, ?_, ?_, ?_, ?_⟩ <;> decide +kernel

/-- A later step than the last, and the last again. -/
theorem witness_SteprecRecords : let i := rowInstr 0x32 (instr 0 1 0) 0 0
    let s := stepState.modHealth (fun h => { h with lastStep := 1 })
    Issues stepState 0 i ∧ i.f2 63 32 = 0 ∧ stepState.group.health.lastStep < i.f2 31 0 ∧ Issues s 0 i
    ∧ i.f2 31 0 ≤ s.group.health.lastStep := by
  refine ⟨issues_of _ _ _ ?_, ?_, ?_, issues_of _ _ _ ?_, ?_⟩ <;> decide +kernel

/-- A move down of a HOT object and a move up of a COLD one, and a copy of an aperture under way. -/
theorem witness_MovesStart : ∀ up : Bool,
    let s := tierState (put (if up then stCold else stHot) 2 30)
    let i := rowInstr (if up then 0x39 else 0x38) (instr 0 0 0) 0 0
    let u := issued s 0 i
    let o := i.f3 11 0
    issuesB s 0 i = true ∧ i.f3 63 12 = 0 ∧ (resEntry u 0 o).valid = true ∧ (dirWindow u 0).isSome = true
    ∧ (poolWindow u 0).isSome = true ∧ resState u 0 o ≠ (if up then stHot else stCold) ∧ (up = true → bayTaken u 0 o = false) := by
  decide +kernel

/-- A generation staged and not yet run. -/
def aStaged : Staged :=
  { gen := 1, step := 0, map := smallMap [hot], setId := 0, slot := 0, mapGen := 1, jobId := 7, jobGen := 7, time := 0, shadow := false,
    panes := [], notHeld := [], held := [], silver := [], side := [], cleared := false, written := 0, copying := false, running := false }

def stagedState : State := stepState.modSnap 0 (fun x => { x with snap := some aStaged })

theorem witness_MovesStart_copyRuns :
    copyRuns ((tierState 0).modSnap 0 (fun x => { x with snap := some { aStaged with copying := true } })) 0 = true := by decide +kernel

theorem witness_SnapshotAndRestoreInstructions_silver : ∀ m ∈ [0, 1],
    let i := rowInstr 0x49 (instr 0 0 0x100000000) 1 m
    issuesB stepState 0 (rowInstr 0x48 (instr 0 0 0) 0 0) = true ∧ issuesB stagedState 0 i = true ∧ i.f3 31 1 = 0
    ∧ (stagedState.eng 0).snap.snap = some aStaged ∧ aStaged.gen = i.f3 63 32 ∧ aStaged.copying = false ∧ aStaged.running = false
    ∧ silverWaits stagedState 0 (stagedState.eng 0).iss.nextId = false ∧ aStaged.cleared = false := by
  decide +kernel

theorem witness_SnapshotAndRestoreInstructions_numbered : Numbered stagedState := numbered_of _ (by decide +kernel)

theorem witness_SnapshotAndRestoreInstructions_restore : ∀ m ∈ [0, 2],
    let i := rowInstr 0x4a (instr 0 0 0x100000000) 3 m
    issuesB stepState 0 i = true ∧ armed stepState 0 = true ∧ i.f3 31 5 = 0 ∧ i.f3 3 2 = 0 ∧ (stepState.eng 0).snap.workRun = false := by decide +kernel
/-- An archive of generation 1 and step 0 of an engine with no STATE or COLD window. -/
def archiveBody : List Byte :=
  slice (leBytes (put 0x435a5041 32 2016 + put 1 16 2000 + put 1 32 1920 + put 2 8 1816 + put 2 8 1808 + put 1 8 1800
    + put 4 8 1792 + leNat (blake3 []) * 2 ^ 256) 256) 32 224 ++ zeros 256

def archiveState : State :=
  let s := { live [gradient] [((0x7050, 0x03, 0), 16)] [] with tier := Memory.write [] 0 (blake3 archiveBody ++ archiveBody) }
  (s.modSnap 0 (fun x => { x with restoreGen := some 1 })).modReb 0 (fun r => { r with enrolled := true })

theorem witness_SnapshotAndRestoreInstructions_load : let i := rowInstr 0x4a (instr 0 0 0x100000000) 3 1
    let s := archiveState
    let u := issued s 0 i
    let slot := i.f3 4 4
    let m := parseManifest (Archive.read u 0 slot)
    issuesB s 0 i = true ∧ armed s 0 = true ∧ i.f3 31 5 = 0 ∧ i.f3 3 2 = 0 ∧ (s.eng 0).snap.workRun = false ∧ (s.eng 0).snap.restoreGen = some (i.f3 63 32)
    ∧ reg u 0 regArchivePanes ≠ 0 ∧ Archive.valid u 0 slot = true ∧ m.gen = i.f3 63 32 ∧ m.step = (s.eng 0).job.committed
    ∧ manifestFits u 0 m = true ∧ (restoreChip u 0 m).any (·.state == 2) = false
    ∧ (ringImport u 0 ((Archive.sideRecord 16 2 (tierRead u (Archive.base u 0 slot + 4096) (4096 * m.side))).getD [])).2.code = 0 := by
  decide +kernel

/-- An engine whose first mirror entry keeps the first data pane of chip 1, tagged with step 0 and not verified. -/
def mirrorState : State := live [hot] [((0x3050, 0x01, 0), put 1 6 234 + put 1 1 229 + put 1 32 160 + put 0x200000 36 111 + put 0x201000 36 75)] []

theorem witness_DigestsAndCopies_mirror : let i := rowInstr 0x08 (instr 0 1 0x100000000) 3 1
    let k := rowInstr 0x41 (instr 0 0 0x100000000) 0 0
    let u := issued mirrorState 0 i
    let v := issued mirrorState 0 k
    Issues mirrorState 0 i ∧ i.f3 31 16 = 0 ∧ i.f3 7 2 = 0 ∧ i.f2 31 0 ≠ 0 ∧ mirrorHere u 0 (i.f3 15 8) = true
    ∧ i.f2 63 32 + i.f2 31 0 ≤ (mirEntry u 0 (i.f3 15 8)).count ∧ ownerLost u 0 (i.f3 15 8) = false
    ∧ Issues mirrorState 0 k ∧ k.f3 31 16 = 0 ∧ k.f3 7 0 = 0 ∧ mirrorHere v 0 (k.f3 15 8) = true ∧ compareUnits v 0 k ≠ 0 := by
  refine ⟨issues_of _ _ _ ?_, ?_, ?_, ?_, ?_, ?_, ?_, issues_of _ _ _ ?_, ?_, ?_, ?_, ?_⟩ <;> decide +kernel
/-! ## Witnesses: the fabric -/

/-- Engine 0 armed with a STATE, a GRADIENT and a COLD window, nothing on its way. -/
def fabState : State := live [hot, gradient, cold] [] []

theorem queue_of (s : State) (e : EngineId) (f : Nat) (h : ∀ f : Fin 8, (facetOf s e f).queue = []) : (facetOf s e f).queue = [] := by
  have hm : facetOf s e f = facetOf s e (f % 8) := by simp [facetOf]
  rw [hm]; exact h ⟨f % 8, Nat.mod_lt _ (by decide)⟩

theorem idle_of (s : State) (e : EngineId) (h : ((s.eng e).fab.held = [] ∧ (s.eng e).reb.fetches = [] ∧ (s.eng e).reb.installs = [])
    ∧ ((s.eng e).reb.recons = [] ∧ (s.eng e).mem.writes = [] ∧ (s.eng e).mem.reads = [])
    ∧ (s.eng e).iss.ops.all (fun o => resting o.work) = true ∧ ((s.eng e).fab.requests = [] ∧ (s.eng e).job.abortFrom = [])
    ∧ ((s.eng e).job.ending ≠ .due ∧ ∀ f : Fin 8, (facetOf s e f).queue = []) ∧ (s.eng e).lou.drill.running = false
    ∧ (s.eng e).bring.fault = none ∧ (s.eng e).bring.facetFaults = []) : Idle s e :=
  ⟨h.1.1, h.1.2.1, h.1.2.2, h.2.1.1, h.2.1.2.1, h.2.1.2.2, fun o ho => List.all_eq_true.1 h.2.2.1 o ho,
   fun r hr => (by rw [h.2.2.2.1.1] at hr; cases hr), h.2.2.2.1.2,
   h.2.2.2.2.1.1, fun f _ => queue_of s e f h.2.2.2.2.1.2, h.2.2.2.2.2.1, h.2.2.2.2.2.2⟩

theorem witness_SettleLeavesIdleEngine : Idle fabState 0 := idle_of _ _ (by decide +kernel)

/-- A chunk of job `job` that chip `chip`'s engine 0 sends to this one, with TAG 5. -/
def chunkOf (job gen seq : BitVec 16) (status : BitVec 8) (k vc chip : Nat) (place : BitVec 44) (step ext : Nat) (payload : List Byte) :
    Chunk :=
  Chunk.seal {
    crc := 0, jobId := job, mapGen := gen, dstChip := 0, dstEngine := 0, srcChip := BitVec.ofNat 13 chip, srcEngine := 0,
    vc := BitVec.ofNat 2 vc, kind := BitVec.ofNat 6 k, status := status, seq := seq, tag := 5, length := BitVec.ofNat 9 payload.length,
    place := place, step := BitVec.ofNat 32 step, ext := BitVec.ofNat 29 ext, payload := payload }

/-- The first chunk of its flow in the small job. -/
def incoming (k vc chip : Nat) (place : BitVec 44) (step ext : Nat) (payload : List Byte) : Chunk :=
  chunkOf 7 1 0 0 k vc chip place step ext payload

/-- The first 256 bytes of a delta with one byte that is not zero. -/
def oneByte : List Byte := [1] ++ zeros 31 ++ [0xab]

/-- Chunks of the panes of chip 1 in row 1, whose parity this member holds. -/
def deltaIn : Chunk := incoming kindDelta 0 1 (placeOf 0 1 0 0) 1 0 oneByte
def gparityIn : Chunk := incoming kindGparity 1 1 (placeOf 1 1 0 0) 1 0 (zeros 256)
def coldIn : Chunk := incoming kindCold 3 1 (placeOf 8 1 0 0) 1 0 (zeros 256)

def validB (s : State) (e : EngineId) (c : Chunk) : Bool :=
  present s e && ingressCredits s e c.vc.toNat != 0 && crcGood c && !badChunk c

def arrivesB (s : State) (e : EngineId) (c : Chunk) : Bool :=
  validB s e c && isRequest c.k && (s.eng e).fab.mustCommit == none && armed s e && c.jobId == jobIdOf s e && c.mapGen == genOf s e
  && c.seq == (rxFlow s e (rxKey c) c.mapGen).expected && !flowWaits s e c && !(byColumn c.k && breaksPane (arrived s e c) e c)

theorem valid_of (s : State) (e : EngineId) (c : Chunk) (h : validB s e c = true) : Valid s e c := by
  simp only [validB, Bool.and_eq_true, Bool.not_eq_true', bne_iff_ne] at h
  exact ⟨h.1.1.1, h.1.1.2, h.1.2, h.2⟩

theorem arrives_of (s : State) (e : EngineId) (c : Chunk) (h : arrivesB s e c = true) (hw : waitWhy (took s e c) e c = (took s e c, none)) :
    Arrives s e c := by
  simp only [arrivesB, Bool.and_eq_true, beq_iff_eq, Bool.not_eq_true'] at h
  obtain ⟨⟨⟨⟨⟨⟨⟨⟨h1, h2⟩, h3⟩, h4⟩, h5⟩, h6⟩, h7⟩, h8⟩, h9⟩ := h
  exact { toValid := valid_of s e c h1, request := h2, open_ := h3, job := ⟨h4, h5⟩, gen := h6, seq := h7, turn := h8, free := hw
          pane := fun hb => by rw [hb] at h9; simpa using h9 }

def respondsB (s : State) (e : EngineId) (c : Chunk) (r : Request) : Bool :=
  validB s e c && !isRequest c.k && c.k != kindResend && armed s e && matchReq s e c == some r
  && decide (r.column = none ∨ ∃ h ∈ r.awaited, h.2 = c.srcChip.toNat)

theorem responds_of (s : State) (e : EngineId) (c : Chunk) (r : Request) (h : respondsB s e c r = true) : Responds s e c r := by
  simp only [respondsB, Bool.and_eq_true, beq_iff_eq, Bool.not_eq_true', bne_iff_ne, ne_eq, decide_eq_true_eq] at h
  obtain ⟨⟨⟨⟨⟨h1, h2⟩, h3⟩, h4⟩, h5⟩, h6⟩ := h
  exact { toValid := valid_of s e c h1, response := ⟨h2, h3⟩, armed := h4, matched := h5, awaited := h6 }

/-- In turn; of another job; one and two ahead of the expected SEQ. -/
theorem witness_RequestOrder : Arrives fabState 0 deltaIn
    ∧ (∀ gen ∈ [1, 9], let c := chunkOf 9 (BitVec.ofNat 16 gen) 0 0 kindDelta 0 1 (placeOf 0 1 0 0) 1 0 oneByte
       validB fabState 0 c = true ∧ isRequest c.k = true ∧ (fabState.eng 0).fab.mustCommit = none ∧ c.jobId ≠ jobIdOf fabState 0
       ∧ c.seq = (rxFlow fabState 0 (rxKey c) c.mapGen).expected ∧ armed fabState 0 = true ∧ (c.mapGen - genOf fabState 0).toNat = gen - 1)
    ∧ ∀ gap : Bool,
        let s := fabState.modFab 0 (fun f => { f with rxFlows := [{ key := rxKey deltaIn, gen := 1, expected := 3, gapSent := gap, answers := [] }] })
        let c := chunkOf 7 1 5 0 kindDelta 0 1 (placeOf 0 1 0 0) 1 0 oneByte
        validB s 0 c = true ∧ isRequest c.k = true ∧ (s.eng 0).fab.mustCommit = none ∧ armed s 0 = true ∧ c.jobId = jobIdOf s 0
        ∧ c.mapGen = genOf s 0 ∧ (rxFlow s 0 (rxKey c) c.mapGen).gapSent = gap
        ∧ (c.seq - (rxFlow s 0 (rxKey c) c.mapGen).expected).toNat = 2 := by
  refine ⟨arrives_of _ _ _ ?_ ?_, ?_, ?_⟩ <;> decide +kernel

theorem witness_PaneChunksGather :
    (Arrives fabState 0 deltaIn ∧ deltaIn.k = kindDelta ∧ parityTarget (took fabState 0 deltaIn) 0 deltaIn = some (hot, 1))
    ∧ (Arrives fabState 0 gparityIn ∧ gparityIn.k = kindGparity ∧ parityTarget (took fabState 0 gparityIn) 0 gparityIn = some (gradient, 1))
    ∧ (Arrives fabState 0 coldIn ∧ coldIn.k = kindCold ∧ parityTarget (took fabState 0 coldIn) 0 coldIn = some (cold, 1)) := by
  refine ⟨⟨arrives_of _ _ _ ?_ ?_, ?_, ?_⟩, ⟨arrives_of _ _ _ ?_ ?_, ?_, ?_⟩, ⟨arrives_of _ _ _ ?_ ?_, ?_, ?_⟩⟩ <;> decide +kernel

/-- The clause on what is not gathered: the sender's ACKED bits are all set. -/
theorem witness_PaneChunksGather_skip : let c := incoming kindDelta 0 1 (placeOf 0 1 0 0) 1 (put 31 5 18) oneByte
    Arrives fabState 0 c ∧ parityTarget (took fabState 0 c) 0 c = some (hot, 1)
    ∧ (bit (c.x 22 18) (myBit (took fabState 0 c) 0 c.row) || rowHeld (took fabState 0 c) 0 hot.number c.row) = true := by
  refine ⟨arrives_of _ _ _ ?_ ?_, ?_, ?_⟩ <;> decide +kernel

/-- A whole pane of a chunk of window `w`. -/
def wholePane (vc window : Nat) (c : Chunk) : Gather :=
  { vc := vc, srcSlot := 1, column := 0, window := window, row := 1, step := 1, segments := [0], chunks := [c], total := some 1 }

/-- The fold facets filled, the cold pane of row 1 present, and one byte of each gathered pane that is not zero. -/
def foldState (g : Gather) : State :=
  let s := setLedger (fillFold fabState 0) 0 cold 1 (bornLedger fabState 0 1)
  (s.modFab 0 (fun f => { f with complete := [g] })).modMem 0 (fun m => { m with
    hbm := (m.hbm.write (gatherAddr fabState 0 g.vc g.srcSlot g.column) [1]).write (cold.bitAt 1) [2] })

theorem witness_FoldPaneFolds : ∀ w ∈ [(hot, wholePane 0 0 deltaIn), (cold, wholePane 3 8 coldIn)],
    let s := foldState w.2
    present s 0 = true ∧ (s.eng 0).bring.rst = none ∧ (s.eng 0).fab.complete.find? (canFold s 0) = some w.2 ∧ gatherReadable s 0 w.2 = true
    ∧ windowRec s 0 w.2.window = some w.1
    ∧ (foldFacetOf s 0 w.2.row).any (fun f => !cellBad (facetOf s 0 f) (foldCell s 0 w.2)
        && liveGranules (foldProduct s 0 f w.2 (gathered s 0 w.2)) != []) = true
    ∧ rowHeld s 0 w.2.window w.2.row = false ∧ rowErased s 0 w.1 w.2.row = false
    ∧ (w.1.isHot = false → rowPresent s 0 w.1 w.2.row = true) := by decide +kernel

/-- The same pane at a spare that has not installed the row, and once more where the row's mask names its column for its step. -/
theorem witness_FoldPaneFolds_duplicate :
    let g := wholePane 0 0 deltaIn
    let held := (foldState g).modReb 0 (fun r => { r with enrolled := true })
    let twice := (foldState g).modMem 0 (fun m => { m with hbm := m.hbm.write (hot.maskAt 1) (leBytes (put 1 32 32 + put 1 24 0) 8) })
    (∀ s ∈ [held, twice], present s 0 = true ∧ (s.eng 0).bring.rst = none ∧ (s.eng 0).fab.complete.find? (canFold s 0) = some g
      ∧ gatherReadable s 0 g = true ∧ windowRec s 0 g.window = some hot
      ∧ (foldFacetOf s 0 g.row).any (fun f => !cellBad (facetOf s 0 f) (foldCell s 0 g)) = true)
    ∧ rowHeld held 0 g.window g.row = true ∧ rowHeld twice 0 g.window g.row = false ∧ rowErased twice 0 hot g.row = false
    ∧ hot.isHot = true ∧ g.step ≠ 0 ∧ bit (maskFor twice 0 hot g.row g.step) g.column = true := by decide +kernel

/-- A tile for slot 0, open in step 1. -/
theorem witness_AccumWriteAbsorbed :
    let s := (live [hot, gradient] stepRegs []).modJob 0 (fun j => { j with slots := [(0, smallSlot)] })
    let c := incoming kindAccum 1 1 0 1 0 (zeros 128)
    Arrives s 0 c ∧ c.k = kindAccum ∧ accVerdict (took s 0 c) 0 c = .absorb := by
  refine ⟨arrives_of _ _ _ ?_ ?_, ?_, ?_⟩ <;> decide +kernel

/-- CHAIN, GATHER and RELEASE of chip 1 about the pane of row 0. -/
theorem witness_DreadRequests : ∀ m ∈ [0, 1, 2],
    let c := incoming kindDreadReq 2 1 (placeOf 0 0 1 0) 1 (put m 2 27) []
    let u := took fabState 0 c
    arrivesB fabState 0 c = true ∧ waitWhy u 0 c = (u, none) ∧ c.k = kindDreadReq ∧ dreadTarget u 0 c = some (hot, 1) ∧ c.x 28 27 = m
    ∧ rowHeld u 0 hot.number c.row = false ∧ paneLost u 0 hot.number c.row = false ∧ hot.isHot = true := by decide +kernel
/-- The last sum of a chain; a segment handed to a spare that has not installed the row; a repair, as the first and as the sixteenth
segment. -/
theorem witness_RebuildSums :
    let chain := incoming kindSum 2 1 (placeOf 0 0 1 0) 1 (put 0x1f 5 8) (zeros 256)
    let repair := incoming kindSum 2 1 (placeOf 0 0 0 0) 1 (put 1 1 7) (zeros 256)
    let part : ChainPart := { window := 0, row := 0, column := 0, origin := 0, hop := 0x20, coeff := 0, nextSlot := 0,
                              segments := (List.range 15).map (fun i => (i + 1, zeros 256)), marks := 0, frozen := false, gen := 1 }
    let spare := fabState.modReb 0 (fun r => { r with enrolled := true })
    let full := fabState.modReb 0 (fun r => { r with parts := [part] })
    (arrivesB fabState 0 chain = true ∧ waitWhy (took fabState 0 chain) 0 chain = (took fabState 0 chain, none) ∧ chain.k = kindSum
      ∧ dreadTarget (took fabState 0 chain) 0 chain = some (hot, 1) ∧ chain.x 7 7 = 0 ∧ chain.x 12 8 = 0x1f)
    ∧ (∀ s ∈ [spare, fabState, full],
      arrivesB s 0 repair = true ∧ waitWhy (took s 0 repair) 0 repair = (took s 0 repair, none) ∧ repair.x 7 7 = 1
      ∧ dreadTarget (took s 0 repair) 0 repair = some (hot, 1) ∧ handingFor (took s 0 repair) 0 repair = none
      ∧ repair.column = columnHere (took s 0 repair) 0 repair.row ∧ repair.x 6 6 = 0)
    ∧ notInstalled (took spare 0 repair) 0 hot.number 0 = true ∧ notInstalled (took fabState 0 repair) 0 hot.number 0 = false
    ∧ (AList.set part.segments 0 (zeros 256)).length = 16 := by decide +kernel

/-- The sixteenth segment of a cold pane's repair. -/
theorem witness_RebuildSums_cold :
    let repair := incoming kindSum 2 1 (placeOf 8 0 0 0) 1 (put 1 1 7) (zeros 256)
    let part : ChainPart := { window := 8, row := 0, column := 0, origin := 0, hop := 0x20, coeff := 0, nextSlot := 0,
                              segments := (List.range 15).map (fun i => (i + 1, zeros 256)), marks := 0, frozen := false, gen := 1 }
    let s := fabState.modReb 0 (fun r => { r with parts := [part] })
    arrivesB s 0 repair = true ∧ waitWhy (took s 0 repair) 0 repair = (took s 0 repair, none) ∧ repair.x 7 7 = 1
    ∧ dreadTarget (took s 0 repair) 0 repair = some (cold, 1) ∧ handingFor (took s 0 repair) 0 repair = none
    ∧ repair.column = columnHere (took s 0 repair) 0 repair.row ∧ repair.x 6 6 = 0 ∧ notInstalled (took s 0 repair) 0 8 0 = false
    ∧ (s.eng 0).reb.parts.find? (handKey 0x20 repair) = some part ∧ (AList.set part.segments 0 (zeros 256)).length = 16 := by decide +kernel

/-- A segment, a digest, a node, an arbitration and a request to the mirror. -/
theorem witness_MirrorRequests :
    (∀ x ∈ [(0, 0, 0), (0, 0, 1), (1, 0, 0), (0, 1, 0)],
      let c := incoming kindMirrorReq 3 1 (placeOf 0 0 0 0) 0 (put x.1 1 26 + put x.2.1 1 25 + put x.2.2 1 28) []
      let u := took fabState 0 c
      arrivesB fabState 0 c = true ∧ waitWhy u 0 c = (u, none) ∧ c.k = kindMirrorReq ∧ c.x 27 27 = 0 ∧ c.x 26 26 = x.1 ∧ c.x 25 25 = x.2.1
      ∧ c.x 28 28 = x.2.2 ∧ mirTarget u 0 c = some hot ∧ (mirRows u 0 c).any (notReadable u 0 hot) = false
      ∧ (mirRows u 0 c).any (paneLost u 0 hot.number) = false
      ∧ (mirRows u 0 c).any (fun r => c.step.toNat < servedTag u 0 hot r c.step.toNat) = false)
    ∧ ∀ d ∈ [0, 1],
      let s := mirrorState.modMem 0 (fun m => { m with hbm := Memory.write [] 0x201000 (leBytes (put 4 32 32 + 1) 8) })
      let c := incoming kindMirrorReq 3 1 (placeOf 0 0 1 0) 4 (put 1 1 27 + put d 1 28) []
      let u := took s 0 c
      arrivesB s 0 c = true ∧ waitWhy u 0 c = (u, none) ∧ c.x 27 27 = 1 ∧ c.x 25 25 = 0 ∧ mirrorOf u 0 c.srcChip.toNat c.window c.row = some (0, 0)
      ∧ mirTag u 0 (mirEntry u 0 0) 0 = (c.step.toNat, true) ∧ readable u 0 (mirEntry u 0 0).buf 4096 = true := by decide +kernel

/-- A segment of a pane that is loaded, of one that is not, and the sixteenth of one. -/
theorem witness_RestoreXfers :
    let c := incoming kindRestore 3 1 (placeOf 0 0 0 0) 1 (put 1 16 13) (zeros 256)
    let part : ChainPart := { window := 0, row := 0, column := 0, origin := 0, hop := 0x21, coeff := 0, nextSlot := 0,
                              segments := (List.range 15).map (fun i => (i + 1, [])), marks := 0, frozen := false, gen := 1 }
    let s := (live [hot] [((0x3020, 0x05, 0), 0x300)] []).modSnap 0 (fun x => { x with restoreGen := some 1 })
    let loaded := s.modMem 0 (fun m => { m with hbm := Memory.write [] 0x300000 [1] })
    let full := s.modReb 0 (fun r => { r with parts := [part] })
    (∀ t ∈ [s, loaded, full], arrivesB t 0 c = true ∧ waitWhy (took t 0 c) 0 c = (took t 0 c, none) ∧ c.k = kindRestore
      ∧ xferTarget (took t 0 c) 0 c = some hot ∧ (t.eng 0).snap.restoreGen = some 1 ∧ 1 % 65536 = c.x 28 13)
    ∧ rebuildBit (took s 0 c) 0 hot.number 0 = false ∧ rebuildBit (took loaded 0 c) 0 hot.number 0 = true
    ∧ (full.eng 0).reb.parts.find? (xferPart 0 0) = some part ∧ (AList.set part.segments 0 []).length = 16 := by decide +kernel

/-- A segment of a cold pane that is not loaded yet. -/
theorem witness_RestoreXfers_cold :
    let c := incoming kindRestore 3 1 (placeOf 8 0 0 0) 1 (put 1 16 13) (zeros 256)
    let s := (live [cold] [((0x3020, 0x05, 0), 0x300)] []).modSnap 0 (fun x => { x with restoreGen := some 1 })
    arrivesB s 0 c = true ∧ waitWhy (took s 0 c) 0 c = (took s 0 c, none) ∧ c.k = kindRestore ∧ xferTarget (took s 0 c) 0 c = some cold
    ∧ (s.eng 0).snap.restoreGen = some 1 ∧ 1 % 65536 = c.x 28 13 ∧ rebuildBit (took s 0 c) 0 8 0 = false ∧ cold.isHot = false := by
  decide +kernel

/-- A request of tag 5, SEQ 0, awaited from these chips. -/
def aRequest (k vc : Nat) (ext : Nat) (awaited : List (Nat × Nat)) (column : Option Nat) (owner : Owner) : Request :=
  { tag := 5, chunk := incoming k vc 0 (placeOf 0 0 0 0) 1 ext [], dest := awaited, awaited := awaited, acked := [], withheld := [], stub := [], column := column,
    owner := owner, hold := .none }

def sentState (r : Request) : State := fabState.modFab 0 (fun f => { f with requests := [r] })

/-- The first of two holders, and the only one. -/
theorem witness_PaneAcknowledged : ∀ k ∈ [(kindDeltaAck, kindDelta, 0), (kindGparityAck, kindGparity, 1), (kindSAck, kindCold, 3)],
    ∀ l ∈ [[(0, 1), (1, 2)], [(0, 1)]],
    let r := aRequest k.2.1 k.2.2 0 l (some 0) (.job 0)
    let c := incoming k.1 k.2.2 1 (placeOf 0 0 0 0) 1 0 []
    respondsB (sentState r) 0 c r = true ∧ c.k = k.1 ∧ r.owner = .job 0
    ∧ r.awaited.filter (fun h => h.2 != c.srcChip.toNat) = l.filter (fun h => h.2 != 1) := by decide +kernel

theorem witness_AnswersJoin :
    (∀ k ∈ [(kindRebuildAck, ([] : List Byte), 0), (kindDreadResp, zeros 256, 1)],
      let r := aRequest kindDreadReq 2 (put k.2.2 2 27) [(0, 1)] none (.install 0)
      let c := incoming k.1 2 1 (placeOf 0 0 0 0) 1 0 k.2.1
      respondsB (sentState r) 0 c r = true ∧ c.k = k.1 ∧ r.owner = .install 0 ∧ r.chunk.k = kindDreadReq ∧ r.chunk.x 28 27 = k.2.2)
    ∧ (let r := aRequest kindMirrorReq 3 0 [(0, 1)] none (.fetch 0)
       let c := incoming kindMirrorResp 3 1 (placeOf 0 0 0 0) 1 0 (zeros 256)
       respondsB (sentState r) 0 c r = true ∧ c.k = kindMirrorResp ∧ r.owner = .fetch 0) := by decide +kernel

/-- A NAK with this status for request `r`. -/
def nakIn (vc : Nat) (status : BitVec 8) (gen : BitVec 16) : Chunk :=
  chunkOf 7 gen 0 status kindNak vc 1 (placeOf 0 0 0 0) 1 0 []

/-- A newer and an older generation, an absent engine before and at its eighth time, a refused pane, an operation's request. -/
theorem witness_RefusalsAndResends_nak :
    (∀ g ∈ [2, 0], let r := aRequest kindMirrorReq 3 0 [(0, 1)] none (.fetch 0)
      let c := nakIn 3 0x12 (BitVec.ofNat 16 g)
      respondsB (sentState r) 0 c r = true ∧ c.k = kindNak ∧ c.status.toNat = 0x12 ∧ c.mapGen.toNat = g ∧ genOf (sentState r) 0 = 1)
    ∧ (∀ n ∈ [0, 7], let r := aRequest kindMirrorReq 3 0 [(0, 1)] none (.fetch 0)
      let c := nakIn 3 0x70 1
      let s := (sentState r).modFab 0 (fun f => { f with dests := [{ chip := 1, engine := 0, vc := 3, timeouts := n, stopped := false, reported := false }] })
      respondsB s 0 c r = true ∧ c.status.toNat = 0x70 ∧ destOf s 0 1 r.chunk.dstEngine.toNat r.chunk.vc.toNat =
        { chip := 1, engine := 0, vc := 3, timeouts := n, stopped := false, reported := false })
    ∧ (∀ st ∈ [0x11, 0x60], let r := aRequest kindDelta 0 0 [(0, 1)] (some 0) (.job 0)
      let c := nakIn 0 (BitVec.ofNat 8 st) 1
      respondsB (sentState r) 0 c r = true ∧ c.status.toNat = st ∧ r.owner = .job 0 ∧ byColumn r.chunk.k = true)
    ∧ (let r := aRequest kindMirrorReq 3 0 [(0, 1)] none (.op 0)
       let c := nakIn 3 0x40 1
       respondsB (sentState r) 0 c r = true ∧ c.status.toNat ≠ 0x12 ∧ c.status.toNat ≠ 0x70 ∧ r.owner = .op 0 ∧ r.chunk.k ≠ kindRestore) := by
  decide +kernel

theorem witness_RefusalsAndResends_resend : let s := sentState (aRequest kindMirrorReq 3 0 [(0, 1)] none (.fetch 0))
    let c := incoming kindResend 3 1 (placeOf 0 0 63 0) 1 0 []
    Valid s 0 c ∧ c.k = kindResend ∧ isStopped s 0 c.srcChip.toNat c.srcEngine.toNat c.vc.toNat = false := by
  refine ⟨valid_of _ _ _ ?_, ?_, ?_⟩ <;> decide +kernel

theorem witness_StubAnswers : present fabState 1 = false ∧ ∀ c ∈ [deltaIn, incoming kindSAck 3 1 (placeOf 0 0 0 0) 1 0 []],
    crcGood c = true ∧ badChunk c = false ∧ isRequest c.k = (c.k == kindDelta) := by decide +kernel
/-! ## Witnesses: streams, passes, lanes and the stack's side -/

/-- A NOP for a present engine with an empty and a full stream, for an absent one and for no engine. -/
theorem witness_ArrivingInstructions :
    let i := rowInstr 0x00 (instr 0 0 0) 0 0
    let full := setQueue fabState 0 0 (List.replicate 16 i)
    noRow i = false ∧ present fabState 0 = true ∧ (streamQueue fabState 0 0).length < 16 ∧ 16 ≤ (streamQueue full 0 0).length
    ∧ (streamQueue full 0 0 ++ [i]).head? = some i ∧ present full 0 = true
    ∧ present fabState 3 = false ∧ (parseInstr 0 0 0 0).body.target.toNat = 0 ∧ (parseInstr 0x3000000000 0 0 0).body.target.toNat = 3
    ∧ (parseInstr 0xd000000000 0 0 0).body.target.toNat = 13 := by decide +kernel

/-- No stream holds an instruction. -/
theorem witness_ArrivingInstructions_step : ∀ e st i rest, present fabState e = true → streamQueue fabState e st = i :: rest →
    i.op ≠ 0x31 ∧ noRow i = false := by
  have hq : ∀ e : Fin 12, (fabState.eng e).iss.queues = [] := by decide +kernel
  intro e st i rest _ h
  have hn : streamQueue fabState e st = [] := by unfold streamQueue; rw [hq]; rfl
  rw [hn] at h
  cases h

def aPass : PassWork :=
  { coeff := parseCoeff 0, ownCol := 0, ins := .mem (paneWalk 0) :: List.replicate 23 .zero,
    outs := .mem (paneWalk 1) :: List.replicate 7 .discard, window := 0, first := 0, rowStep := 1, panes := 1, done := 0, lent := 0, restarts := 0 }

/-- An operation on facet 0 of engine 0, which streams it. -/
def onFacet (i : RawInstr) (w : Work) : Op := { anOp i w with facet := some (0, 0) }

def facetState (o : Op) : State :=
  modFacet (withOps passState [o]) 0 0 (fun x => { x with queue := [{ home := 0, op := 0 }], active := some { home := 0, op := 0 } })

theorem witness_OperationsComplete : ∀ o ∈ [anOp (rowInstr 0x00 (instr 0 0 0) 0 0) .ended, anOp (rowInstr 0x02 (instr 0 0 0) 1 0) (.fence [7]),
      onFacet (rowInstr 0x01 (instr 0 9 0) 0 0) (.fill 9)],
    let s := facetState o
    findOp s 0 0 = some o ∧ opBusy s 0 0 = false
    ∧ (match o.work with
      | .ended => true
      | .fence ids => ids.all (fun id => (findOp s 0 id).isNone)
      | .fill _ => isActive s 0 o
      | _ => false) = true := by decide +kernel

/-- Causes of four classes. -/
theorem witness_OperationsComplete_status : ∀ c ∈ [0x01, 0x30, 0x11, 0x60],
    [[0x50], [0x10, 0x11, 0x12], [0x40], [0x30, 0x31], [0x60], [0x20, 0x21], [0x01]].findIdx (fun l => l.contains c) < 7 := by decide

theorem witness_PassRowRetires : let o := onFacet (rowInstr 0x10 (instr 4 1 0) 0 0) (.pass aPass)
    let s := facetState o
    let r : OpRef := { home := 0, op := 0 }
    let u := fillFor s 0 0 r
    (facetOf s 0 0).active = some r ∧ findOp s 0 o.id = some o ∧ o.ins.op = 0x10 ∧ aPass.done < aPass.panes
    ∧ (usedCells aPass).any (cellBad (facetOf u 0 0)) = false ∧ stageReady s 0 aPass = true ∧ outQueues aPass.outs = []
    ∧ (∀ w ∈ readWalks aPass, walkRowTouches s 0 w 0 = false ∧ ∀ a ∈ w.rowElems 0, elemInside w a = true ∧ readable s 0 a.toNat (2 ^ w.elog) = true)
    ∧ (∀ w ∈ writeWalks aPass, walkRowTouches s 0 w 0 = false ∧ w.rowInside 0 = true) := by decide +kernel

theorem stageRoom_of (s : State) (e : EngineId) (p : PassWork) (hq : outQueues p.outs = []) (hs : (s.eng e).iss.stages = []) :
    stageRoom s e p = true := by simp [stageRoom, hq, hs]

theorem witness_PassRowRetires_outputs : stageRoom (facetState (onFacet (rowInstr 0x10 (instr 4 1 0) 0 0) (.pass aPass))) 0 aPass = true
    ∧ ∀ x ∈ aPass.outs, x = .discard ∨ ∃ w, x = .mem w := by
  refine ⟨stageRoom_of _ _ _ (by decide +kernel) (by decide +kernel), ?_⟩
  intro x hx
  simp only [aPass, List.mem_cons, List.mem_replicate] at hx
  rcases hx with rfl | ⟨_, rfl⟩
  · exact .inr ⟨_, rfl⟩
  · exact .inl rfl

/-- A pass whose first input is an empty staging queue. -/
theorem witness_PassRowRetires_timeout : let p := { aPass with ins := [.stage 0] }
    let o := onFacet (rowInstr 0x10 (instr 4 1 0) 0 0) (.pass p)
    let s := facetState o
    (facetOf s 0 0).active = some { home := 0, op := 0 } ∧ findOp s 0 o.id = some o ∧ o.facet = some (0, 0) ∧ stageReady s 0 p = false := by
  decide +kernel

theorem witness_FillLoadsCoefficients : let o := onFacet (rowInstr 0x10 (instr 4 1 0) 0 0) (.pass aPass)
    findOp (facetState o) 0 o.id = some o ∧ (facetOf (facetState o) 0 0).filled ≠ some { home := 0, op := 0 } := by decide +kernel

/-- A lane operation with its first pane finished, a credit for its deltas. -/
theorem witness_LanePaneHandedOn :
    let desc := (descEntries stepState 0 1 2).getD []
    let p : PaneOut := { window := 0, row := 0, content := [] }
    let w : SweepWork := { desc := desc, step := 1, first := 0, next := 256, last := 256, started := true, ready := [p], pend := false,
                           parcel := none, ringFull := false, repaired := false, nonfinite := false, tail := false, fullNoted := false,
                           warned := false }
    let s := (withOps stepState [anOp (rowInstr 0x30 (instr 1 256 0x100000000) 0 0) (.lanes w)]).modFab 0 (fun f => { f with credits := [(0, 1)] })
    let s := modFacet s 0 0 (fun x => { x with laneQueue := [0], laneActive := some 0 })
    (facetOf s 0 0).laneActive = some 0 ∧ apertureStands s 0 = false ∧ laneWork s 0 0 = some w ∧ (parseObj w.desc).isSome = true ∧ w.started = true
    ∧ slotsUsed s 0 < reg s 0 regSweepPaneSlots ∧ credit s 0 0 ≠ 0 ∧ paneWaits s 0 p.window p.row = false
    ∧ windowRec s 0 p.window = some hot ∧ reconAt s 0 hot.number p.row = none
    ∧ holderList s 0 p.row (columnHere s 0 p.row) ≠ [] := by decide +kernel

/-- The oldest request of tag 3, a read and a write, of operation 0. -/
theorem witness_StackAnswers_response : ∀ write : Bool,
    let r : MemReq := { op := if write then .write else .read, cls := 0, tag := 3, granule := 100, byteEn := 0, data := [], poison := false,
                        owner := some 0 }
    let o := anOp (rowInstr 0x08 (instr 0 0 0) 3 0) .ended
    let s := (withOps fabState [o]).modMem 0 (fun m => { m with memReqs := [r] })
    (s.eng 0).mem.memReqs.find? (fun q => q.tag == 3 && q.isWrite == write) = some r ∧ r.isWrite = write ∧ findOp s 0 0 = some o
    ∧ r.owner = some 0 := by decide +kernel

/-- Outside every window; a pane that is present, one that is not, and one in a degraded range. -/
theorem witness_StackAnswers_lookup :
    let s := fabState.modMem 0 (fun m => { m with presence := [(0, 0)] })
    let d := fabState.modReb 0 (fun r => { r with ranges := [(0, { window := 0, first := 0, last := 3, local_ := false })] })
    present fabState 0 = true ∧ present fabState 1 = false ∧ windowAt fabState 0 (4096 * 4096) = none
    ∧ windowAt s 0 (16 * 4096) = some (hot, 0) ∧ windowAt s 0 (17 * 4096) = some (hot, 1) ∧ windowAt d 0 (16 * 4096) = some (hot, 0)
    ∧ (s.eng 0).lou.faults = [] ∧ rowPresent s 0 hot 0 = true ∧ rowPresent s 0 hot 1 = false
    ∧ (∀ r ∈ [0, 1], rowErased s 0 hot r = false ∧ installing s 0 hot.number r = false ∧ paneLost s 0 hot.number r = false)
    ∧ rowErased d 0 hot 0 = false
    ∧ inRange s 0 hot.number 0 = false ∧ inRange d 0 hot.number 0 = true ∧ (s.eng 0).mem.writes = [] := by decide +kernel

/-- A write to a data pane, to a parity pane, to a GRADIENT pane and outside every window. -/
theorem witness_CodedWrites :
    let s := fabState
    present s 0 = true ∧ (∀ g ∈ [0x400, 0x440, 0xc00, 0x40000], runPrivate s 0 g 2 = false ∧ g % 64 + 2 ≤ 64)
    ∧ windowAt s 0 (64 * 0x400) = some (hot, 0) ∧ hot.cls = 0 ∧ holdsData s 0 0 = true ∧ (s.eng 0).mem.writes = [] ∧ copyRuns s 0 = false
    ∧ apertureHolds s 0 = false ∧ (s.eng 0).job.ending ≠ .due ∧ (s.eng 0).bring.rst = none ∧ paneWaits s 0 hot.number 0 = false
    ∧ laneHolds s 0 hot.number 0 = false ∧ (s.eng 0).lou.faults = [] ∧ (s.eng 0).lou.flipArmed = false
    ∧ (let u := tapRun [1, 1] s 0 0x400 (zeros 128); paneUsable u 0 hot 0 = (u, .good)) ∧ windowRec s 0 hot.number = some hot
    ∧ holderList s 0 0 (columnHere s 0 0) ≠ []
    ∧ windowAt s 0 (64 * 0x440) = some (hot, 1) ∧ holdsData s 0 1 = false ∧ windowAt s 0 (64 * 0xc00) = some (gradient, 0) ∧ gradient.cls ≠ 0
    ∧ windowAt s 0 (64 * 0x40000) = none ∧ (s.eng 0).mem.hbm.wf = true := by decide +kernel

/-- The accumulation region begins at granule 0x2000. -/
theorem witness_CodedWrites_private : let s := (live [hot] stepRegs []).modMem 0 (fun m => { m with privateOn := true })
    present s 0 = true ∧ isPrivate s 0 0x2000 = true ∧ isPrivate s 0 0x1000 = false := by decide +kernel

theorem witness_TapsAccumulate : let s := live [hot] [((0x6020, 0x01, 0), put 1 1 63 + put 3 24 24 + put 1 24 0)] []
    present s 0 = true ∧ isPrivate s 0 200 = false ∧ windowAt s 0 (64 * 200) = none ∧ (s.eng 0).mem.hbm.wf = true
    ∧ tapCovers s 0 0 200 = true ∧ tapCovers s 0 1 200 = false
    ∧ isPrivate s 0 0x440 = false ∧ windowAt s 0 (64 * 0x440) = some (hot, 1) ∧ holdsData s 0 1 = false := by decide +kernel
/-! ## Witnesses: tier, fabric, barriers, apertures -/

/-- A transfer of two requests, of which `out` are outstanding and `lost` have ended late, with this purpose. -/
def aTransfer (write : Bool) (todo out lost : List Nat) (cont : TierCont) : TierReq :=
  { id := 3, engine := 0, addr := 4096, length := 128, bytes := if write then zeros 128 else [], write := write, cls := 1, layer := (0, 0),
    after := none, todo := todo, out := out, lost := lost, status := 0, cont := cont }

/-- A request that has ended late, one of several, the last of a wipe, of a cold fold's read and of its writes. -/
theorem witness_TierRequestsEnd :
    let at_ := fun (t : TierReq) => (foldState (wholePane 3 8 coldIn)).modCoord (fun x => { x with tierReqs := [t] })
    (∀ t ∈ [aTransfer true [] [1] [0] .wipe, aTransfer true [1] [0] [] .wipe, aTransfer true [] [0] [] .wipe,
            aTransfer false [] [0] [] (.foldRead 3 1 0), aTransfer true [] [0] [] (.fold 3 1 0)],
      let s := at_ t
      tierPart s (64 * 3) = some t ∧ tierInside s (t.partAt 0).1 (t.partAt 0).2 = true ∧ t.status = 0
      ∧ (t.lost.contains 0 = false → t.out.contains 0 = true)
      ∧ (s.eng 0).fab.complete.find? (gatherKey 3 1 0) = some (wholePane 3 8 coldIn) ∧ windowRec s 0 8 = some cold
      ∧ (foldFacetOf s 0 1).isSome = true ∧ (s.eng 0).tier.repairs.length < 512
      ∧ ∀ x ∈ s.group.coord.tierReqs, x.after ≠ some t.id)
    ∧ (foldState (wholePane 3 8 coldIn)).tier.wf = true := by decide +kernel

/-- A channel with credit, without, and with a chunk that waits for it; seven and eight timeouts; a refused generation. -/
theorem witness_FabricSends :
    let x : Sent := { dest := [1], chunk := deltaIn }
    let r := aRequest kindMirrorReq 3 0 [(0, 1)] none (.fetch 0)
    let dest := fun (n : Nat) => (sentState r).modFab 0 (fun f => { f with dests := [{ chip := 1, engine := 0, vc := 3, timeouts := n, stopped := false, reported := false }] })
    let s := fabState.modFab 0 (fun f => { f with egress := [x] })
    credit (fabState.modFab 0 (fun f => { f with credits := [(0, 1)] })) 0 0 ≠ 0 ∧ egressHead fabState 0 0 = none
    ∧ credit s 0 0 = 0 ∧ egressHead s 0 0 = some x
    ∧ (∀ n ∈ [6, 7], armed (dest n) 0 = true ∧ present (dest n) 0 = true ∧ awaiting (dest n) 0 1 0 3 = [r]
      ∧ isStopped (dest n) 0 1 0 3 = false ∧ (destOf (dest n) 0 1 0 3).timeouts = n)
    ∧ ((sentState { r with hold := .retry }).eng 0).fab.requests.find? (fun q => q.tag == 5 && q.hold == .retry) = some { r with hold := .retry } := by
  decide +kernel

theorem witness_WaitsEndRefused : ∀ w ∈ [(HoldWhy.gen 2, deltaIn), (.slotOpen, incoming kindAccum 1 1 0 1 0 (zeros 128)),
      (.commit, incoming kindMirrorReq 3 1 (placeOf 0 0 0 0) 1 0 [])],
    let h : Held := { chunk := w.2, why := w.1 }
    let held := [h]
    (w.1 == .gen 2 → held.find? (fun h => isGenHeld h && h.chunk.vc == 0) = some h)
    ∧ (w.1 == .slotOpen → held.find? (fun h => h.why == .slotOpen && h.chunk.srcChip.toNat == 1 && h.chunk.srcEngine.toNat == 0) = some h)
    ∧ (w.1 == .commit → held.find? (fun h => h.why == .commit && h.chunk.srcChip == 1 && h.chunk.tag == 5) = some h) := by decide +kernel

/-- An operation whose request a newer responder has refused. -/
theorem witness_WaitsEndRefused_own : let o := anOp (rowInstr 0x31 (instr 0 0 0) 0 0) .ended
    let r := { aRequest kindMirrorReq 3 0 [(0, 1)] none (.op o.id) with hold := .newGen 2 }
    let s := withOps (sentState r) [o]
    (s.eng 0).iss.ops.find? (fun o =>
      (s.eng 0).fab.requests.any (fun r => heldNewer r && r.chunk.vc == 3 && reqOfOp s 0 o.id r)) = some o ∧ halfPanes s 0 o = [] := by
  decide +kernel

/-- A COMMIT and a QUIESCE of step 1, waiting and ready. -/
def barrierOp (mode : Nat) (ready : Bool) : Op := anOp (rowInstr 0x31 (instr 0 0 0x100000000) 3 mode) (.barrier 1 mode ready 0)

theorem witness_BarrierEvents : ∀ mode ∈ [0, 2],
    let w := withOps stepState [barrierOp mode false]
    let s := withOps stepState [barrierOp mode true]
    (w.eng 0).iss.ops.find? (fun o => match o.work with | .barrier t m ready _ => !ready && readyFor w 0 o.id t m | _ => false)
      = some (barrierOp mode false)
    ∧ present s 0 = true ∧ readyBarrier s 0 1 mode = some (barrierOp mode true) ∧ heldBack s 0 1 = false ∧ (s.eng 0).job.committed < 1
    ∧ present s 1 = false
    ∧ (s.eng 0).iss.ops.find? (fun o => match o.work with | .barrier _ _ ready _ => ready | _ => false) = some (barrierOp mode true) := by
  decide +kernel

def apertureOf (ready : Bool) : Op := anOp (rowInstr 0x48 (instr 0 0 0x100000000) 0 0) (.aperture 1 0 ready 0 0)

theorem witness_ApertureEvents :
    let w := withOps stepState [apertureOf false]
    let s := withOps stepState [apertureOf true]
    apertureOp w 0 = some (apertureOf false, 1, 0, false, 0, 0) ∧ apertureDrained w 0 = true
    ∧ present s 0 = true ∧ apertureOp s 0 = some (apertureOf true, 1, 0, true, 0, 0)
    ∧ (myWindows s 0).all (fun w => (List.range w.length).all (fun r => !rowErased s 0 w r)) = true
    ∧ reg s 0 regSnapMode ≠ 1 ∧ copyRuns s 0 = false := by
  refine ⟨?_, ?_, ?_, ?_, ?_, ?_, ?_⟩ <;> decide +kernel

theorem witness_ApertureEvents_copy :
    let s := withOps stepState [apertureOf true]
    let c := s.modSnap 0 (fun x => { x with snap := some { aStaged with copying := true } })
    (c.eng 0).snap.snap = some { aStaged with copying := true } ∧ apertureOp c 0 = some (apertureOf true, 1, 0, true, 0, 0)
    ∧ (c.eng 0).job.ending = .no
    ∧ reg (live [hot] [((regSnapMode.1, regSnapMode.2, 0), 1)] []) 0 regSnapMode = 1 := by decide +kernel
/-! ## Witnesses: background work, power, health -/

/-- Rows to verify, to skip, to install, to repair and to drill. -/
theorem witness_BackgroundWork :
    let regs : RegFile := [((regScrubShare.1, regScrubShare.2, 0), 1), ((regDrillPeriod.1, regDrillPeriod.2, 0), 1),
      ((regDrillRegionPanes.1, regDrillRegionPanes.2, 0), 1), ((regRebuildShare.1, regRebuildShare.2, 0), 1), ((regRebuildMapBase.1, regRebuildMapBase.2, 0), 0x300)]
    let s := live [hot] regs []
    let ws := (myWindows s 0).mergeSort (fun a b => a.number ≤ b.number)
    let at1 := s.modLou 0 (fun l => { l with scrub := (0, 1) })
    let spare := s.modReb 0 (fun r => { r with enrolled := true, firstCommit := true })
    let broken := s.modTier 0 (fun t => { t with repairs := [(8, 0, 0)] })
    let busy := s.modReb 0 (fun r => { r with ranges := [(0, { window := 0, first := 0, last := 3, local_ := false })] })
    let drill := (s.modLou 0 (fun l => { l with drill := { l.drill with running := true } })).modMem 0 (fun m => { m with presence := [(0, 0)] })
    present s 0 = true ∧ armed s 0 = true ∧ reg s 0 regScrubShare ≠ 0 ∧ installsWait s 0 = false ∧ (s.eng 0).reb.installs = []
    ∧ walkRow ws (s.eng 0).lou.scrub = some (hot, 0) ∧ verifySkips s 0 hot 0 = true
    ∧ walkRow ws (at1.eng 0).lou.scrub = some (hot, 1) ∧ verifySkips at1 0 hot 1 = false
    ∧ (spare.eng 0).reb.enrolled = true ∧ (spare.eng 0).reb.firstCommit = true ∧ reg spare 0 regRebuildShare ≠ 0
    ∧ (backgroundOrder spare 0).findSome? (fun p => (p.2.find? (lacks spare 0 p.1)).map (fun r => (p.1, r))) = some (hot, 0)
    ∧ (broken.eng 0).tier.repairs.find? (fun r => !installing broken 0 r.1 r.2.1 && !paneLost broken 0 r.1 r.2.1) = some (8, 0, 0)
    ∧ installsWait spare 0 = false ∧ installsWait drill 0 = false
    ∧ reg s 0 regDrillPeriod ≠ 0 ∧ reg s 0 regDrillRegionPanes ≠ 0 ∧ (s.eng 0).lou.drill.running = false
    ∧ (s.eng 0).reb.ranges = [] ∧ apertureOp s 0 = none ∧ copyRuns s 0 = false
    ∧ (∃ p ∈ (busy.eng 0).reb.ranges, p.2.local_ = false)
    ∧ (drill.eng 0).lou.drill.running = true ∧ activeInstalls drill 0 < reg drill 0 regChainsMax
    ∧ (drill.eng 0).lou.drill.rows + (drillRows drill 0).length < drillTotal drill 0
    ∧ walkRow (drillWindows drill 0) (drill.eng 0).lou.drill.at_ = some (hot, 0) ∧ drillSkips drill 0 hot 0 = false := by decide +kernel

def anInstall (p : Purpose) (phase : Phase) : Install :=
  { id := 0, purpose := p, window := 0, row := 0, column := 0, extra := 0, gather := false, phase := phase, sources := [], sum := [],
    asked := false, recorded := false, torn := 0, finals := [], acks := [] }

theorem witness_RebuildWaitsEnd :
    let at_ := fun (n : Install) => fabState.modReb 0 (fun r => { r with installs := [n] })
    let m : MoveWork := { slot := 0, up := true, index := 0, phase := .readHome }
    let s := withOps fabState [anOp (rowInstr 0x39 (instr 0 0 0) 0 0) (.move m)]
    findInstall (at_ (anInstall (.install true) .reading)) 0 0 = some (anInstall (.install true) .reading)
    ∧ findInstall (at_ (anInstall (.arbitrate 0 1 none false) .waiting)) 0 0 = some (anInstall (.arbitrate 0 1 none false) .waiting)
    ∧ findOp s 0 0 = some (anOp (rowInstr 0x39 (instr 0 0 0) 0 0) (.move m)) ∧ moveBusy s 0 0 = false := by decide +kernel

/-- An engine that stage 0 brings up, with and without its islands. -/
def risingState (good : Bool) : State :=
  (List.range 8).foldl (fun s f => modFacet s 0 f (fun x => { x with requested := true, powered := good }))
    (State.reset.modBring 0 (fun b => { b with islandReq := true, islandGood := good }))

theorem witness_PowerEvents :
    let s := fabState.modEng 0 (fun g => { g with bring := { g.bring with islandReq := true, islandGood := true } })
    (let x := facetOf fabState 0 0
     let want := min (activityLimit x) (if x.autofill = true ∧ x.current = 0 then x.lastAct else x.current)
     want ≤ x.activity + 12288 ∧ x.activity ≤ want + 12288)
    ∧ present fabState 0 = true ∧ present fabState 1 = false ∧ (s.eng 0).bring.islandReq = true
    ∧ (facetOf (risingState false) 0 3).requested = true ∧ (facetOf (risingState false) 0 3).powered = false
    ∧ ((risingState false).eng 0).bring.islandReq = true ∧ ((risingState false).eng 0).bring.islandGood = false
    ∧ stageOpen (risingState false) 0 0 = true
    ∧ islandsGood (forEngines allEngines (fun s e => s.modBring e (fun b => { b with islandReq := true, islandGood := true })) State.reset) = true
    ∧ (let r := forEngines allEngines (fun s e => s.modBring e (fun b => { b with islandReq := true, islandGood := true })) State.reset
       ((allEngines.filter (enginePresent r)).flatMap (fun e => (liveFacets r e).map (fun f => (e, f)))).find?
        (fun p => !(facetOf r p.1 p.2).requested && (r.eng p.1).bring.rst.isNone) = some (0, 0)) := by decide +kernel

/-- A full and an emptying event queue, an armed latch, times before and after it. -/
theorem witness_HealthAndLatchEvents :
    let r : EventRec := { time := 0, step := 0, code := 1, engine := 0, facet := 0xf, severity := 1, stream := 0, status := 0, tag := 0, args := 0 }
    let q := State.reset.modEv (fun v => { v with queue := [r], dropped := 3 })
    let armed := fun (k : Nat) => { State.reset.modHealth (fun h => { h with latch := { h.latch with kind := k, at_ := 2000000000 } }) with time := 2000000000 }
    let setAt := fun (a : Nat) => State.reset.modGDict (fun d => { d with regs := [((regLatchAt.1, regLatchAt.2, 0), a)] })
    q.group.ev.queue = [r] ∧ q.group.ev.dropped ≠ 0 ∧ (armed 1).group.health.latch.at_ ≤ (armed 1).time.toNat ∧ (armed 1).group.health.latch.kind = 1
    ∧ (999999999 : BitVec 64) < (armed 1).time ∧ (999999999 : BitVec 64).toNat + 1000000000 < (armed 1).group.health.latch.at_
    ∧ (1000000000 : BitVec 64) < (armed 1).time ∧ (armed 1).group.health.latch.at_ ≤ (1000000000 : BitVec 64).toNat + 1000000000
    ∧ State.reset.group.lc.blowing = none ∧ State.reset.group.lc.state ≠ .returned
    ∧ (setAt 60000000000).time.toNat ≤ greg (setAt 60000000000) regLatchAt
    ∧ greg (setAt 60000000000) regLatchAt ≤ (setAt 60000000000).time.toNat + 60000000000
    ∧ (setAt 1).group.coord.stepC < greg (setAt 1) regLatchAt
    ∧ (let thr := fun (n : Nat) => State.reset.modGDict (fun d => { d with regs := [((regRiskThreshold.1, regRiskThreshold.2, 0), n), ((regRiskHysteresis.1, regRiskHysteresis.2, 0), 0)] })
       min 255 ((riskWeights (thr 1)).foldl (· + ·) 0) < greg (thr 1) regRiskThreshold
       ∧ min 255 ((riskWeights (thr 1)).foldl (· + ·) 0) + greg (thr 1) regRiskHysteresis ≤ greg (thr 1) regRiskThreshold
       ∧ greg (thr 0) regRiskThreshold ≤ min 255 ((riskWeights (thr 0)).foldl (· + ·) 0)) := by decide +kernel
/-! ## Witnesses: life cycle and the dictionary -/

/-- The point (0, 1) of the curve: as key and as R it verifies every message with S = 0. -/
def neutral : List Byte := [1] ++ zeros 31

/-- A part in operation with that key in its fuses, right after reset. -/
def fieldState (l : LifeCycle) : State := State.reset.modLc (fun c => { c with state := l, keyFuses := neutral })

/-- An *AUTH_REQUEST* for an action and a lease with this S. -/
def authData (action lease s : Nat) : List Byte := leBytes action 4 ++ leBytes lease 4 ++ challenge State.reset ++ neutral ++ leBytes s 32

theorem witness_LifeCycleCommands :
    (∀ l ∈ [LifeCycle.test, .provisioned, .operate, .service], (fieldState l).group.lc.state = l ∧ (fieldState l).group.lc.blowing = none)
    ∧ keyCommitted (State.reset.modGDict (fun d => { d with regs := [((regServiceKey.1, regServiceKey.2, 0), 1)] })) = true
    ∧ keyCommitted State.reset = false
    ∧ (∀ b ∈ [FuseBlow.provisioned, .field, .returned, .authReturned],
        (State.reset.modLc (fun l => { l with blowing := some b })).group.lc.blowing = some b
        ∧ wiping (State.reset.modLc (fun l => { l with blowing := some b })) = false) := by decide +kernel

/-- Both actions authorised; a wrong S refused, and a lease beyond its range. -/
theorem witness_LifeCycleCommands_auth :
    (authData 1 10 0).length = 88 ∧ authCheck (fieldState .operate) (authData 1 10 0) = none ∧ leAt (authData 1 10 0) 0 4 = 1
    ∧ authCheck (fieldState .operate) (authData 2 0 0) = none ∧ leAt (authData 2 0 0) 0 4 = 2
    ∧ authCheck (fieldState .operate) (authData 1 10 edL) = some 2 ∧ authCheck (fieldState .operate) (authData 1 481 0) = some 4 := by
  decide +kernel

def servesB (s : State) (sc : Scope) (sel : BitVec 4) : Bool :=
  s.group.lc.blowing == none && (match sc with | some e => sel.toNat == e.val && present s e | none => sel == 0xe)

theorem serves_of (s : State) (sc : Scope) (sel : BitVec 4) (h : servesB s sc sel = true) : Serves s sc sel := by
  cases sc with
  | none => simp only [servesB, Bool.and_eq_true, beq_iff_eq] at h; exact ⟨h.1, h.2⟩
  | some e => simp only [servesB, Bool.and_eq_true, beq_iff_eq] at h; exact ⟨h.1, h.2.1, h.2.2⟩

/-- Engine 0 present, no job armed, with these committed and shadow words and group states. -/
def portState (regs shadow : RegFile) (groups : AList Nat GroupStat) : State :=
  (State.reset.modBring 0 (fun b => { b with position := .present })).modDict 0 (fun d => { d with regs := regs, shadow := shadow, groups := groups })

/-- A transaction with engine 0. -/
def txn (op : BitVec 2) (index : BitVec 16) (sub : BitVec 8) (data : List Byte) (length : BitVec 9) : Txn :=
  { op := op, engineSel := 0, index := index, sub := sub, segment := 0, length := length, data := data }

def waitingStat : GroupStat := { GroupStat.init with mode := .waiting }

/-- No entry; no right to write or to read; a length and a value that do not fit; a waiting group; an RWS and an RW write; a read. -/
theorem witness_DictionaryTransactions : let s := portState [] [] []
    let w := portState [] [] [(4, waitingStat)]
    let entry := fun (t : Txn) => findEntry t.index.toNat t.sub.toNat
    let size := txn 1 0x5010 0x02 [0, 0, 0x20, 0, 0, 0, 0, 0] 8
    let key := fun (t : Txn) => (t.index.toNat, t.sub.toNat)
    servesB s (some 0) 0 = true ∧ servesB w (some 0) 0 = true ∧ servesB s none 0xe = true
    ∧ entry (txn 1 0x5fff 1 [0] 1) = none
    ∧ (entry (txn 1 0x4010 0x06 [0, 0, 0, 0] 4)).any (fun en => !en.shared && isScalar en.ty && !mayWrite s en (0x4010, 0x06)) = true
    ∧ (entry (txn 0 0x5000 0x01 [] 1)).any (fun en => !en.shared && isScalar en.ty && !mayRead s en) = true
    ∧ (entry (txn 1 0x5010 0x02 [0] 1)).any (fun en => isScalar en.ty && mayWrite s en (0x5010, 0x02) && !fits en (txn 1 0x5010 0x02 [0] 1)) = true
    ∧ (entry (txn 1 0x4010 0x03 [0] 1)).any (fun en => mayWrite s en (0x4010, 0x03) && fits en (txn 1 0x4010 0x03 [0] 1)
        && !valueFits s (some 0) en (0x4010, 0x03) 0) = true
    ∧ (entry size).any (fun en => !en.shared && isScalar en.ty && en.right == .rws && isWrite size && mayWrite s en (key size) && fits en size
        && valueFits s (some 0) en (key size) (leNat size.data) && !entryWaits s (some 0) en && entryWaits w (some 0) en) = true
    ∧ (entry (txn 1 0x2060 0x03 [5] 1)).any (fun en => en.right == .rw && mayWrite s en (0x2060, 0x03) && fits en (txn 1 0x2060 0x03 [5] 1)
        && valueFits s (some 0) en (0x2060, 0x03) 5 && !entryWaits s (some 0) en) = true
    ∧ (entry (txn 0 0x2060 0x03 [] 1)).any (fun en => mayRead s en && fits en (txn 0 0x2060 0x03 [] 1) && !isWrite (txn 0 0x2060 0x03 [] 1)) = true := by
  decide +kernel

/-- A curve in one segment, the first and the second segment of a longer one. -/
theorem witness_DictionaryTransactions_blob : let s := portState [] [] []
    let half := s.modDict 0 (fun d => { d with asm := some { index := 0x4040, sub := 1, next := 1, bytes := zeros 256 } })
    servesB s (some 0) 0 = true
    ∧ (findEntry 0x4040 1).any (fun en => !en.shared && (match en.ty with | .blob lo hi => lo == 8 && hi == 520 | _ => false) && en.right == .rws
        && mayWrite s en (0x4040, 1) && !entryWaits s (some 0) en) = true
    ∧ Whole s (some 0) (0x4040, 1) 0x8000 (zeros 8) (zeros 8)
    ∧ Whole half (some 0) (0x4040, 1) 0x8001 (zeros 8) (zeros 256 ++ zeros 8) :=
  ⟨by decide +kernel, by decide +kernel, ⟨by decide, by decide, .inl ⟨by decide, rfl⟩⟩,
   ⟨by decide, by decide, .inr ⟨by decide, { index := 0x4040, sub := 1, next := 1, bytes := zeros 256 }, by decide +kernel, by decide, by decide, by decide, by decide⟩⟩⟩

/-- A mask of KIND 1 and of KIND 0; the ledger word of a row, of no row, and outside TEST. -/
theorem witness_DictionaryTransactions_flip :
    let mask := fun (k : Nat) => portState [((regFlipmaskTarget.1, regFlipmaskTarget.2, 0), put k 2 62)] [] []
    let peek := fun (r : Nat) => live [hot] [((regLedgerPeekSelect.1, regLedgerPeekSelect.2, 0), put r 28 32)] []
    servesB (mask 1) (some 0) 0 = true ∧ flipCode (mask 1) (flipTarget (mask 1) 0) = 0 ∧ flipCode (mask 0) (flipTarget (mask 0) 0) ≠ 0
    ∧ servesB (peek 1) (some 0) 0 = true ∧ peekRow (peek 1) 0 = some (hot, 1) ∧ peekRow (peek 9) 0 = none ∧ (peek 1).group.lc.state = .test
    ∧ ((peek 1).modLc (fun l => { l with state := .operate })).group.lc.state ≠ .test
    ∧ hot.isHot = true ∧ hot.ledgerAt 1 + 8 ≤ stackBytes ∧ ((peek 1).eng 0).mem.hbm.wf = true := by decide +kernel

/-- Group 4 clean, waiting, dirty with a sound shadow, and dirty while the engine is armed; group 0 dirty with no fold facet; then the
same for a commit on every engine. -/
theorem witness_GroupCommands :
    let d : GroupStat := { GroupStat.init with mode := .dirty }
    let good := portState [] [] [(4, d)]
    let bad := portState [] [((regFoldFacets.1, regFoldFacets.2, 0), 0)] [(0, d)]
    let busy := (live [hot] [] []).modDict 0 (fun x => { x with groups := [(4, d)] })
    (∀ s ∈ [good, busy, portState [] [] [], portState [] [] [(4, waitingStat)], bad], servesB s (some 0) 0 = true ∧ s.group.lc.state ≠ .returned)
    ∧ (findEntry 0x5000 1).any (fun en => en.right == .cmt && en.group == 4 && !en.shared && mayWrite good en (0x5000, 1)) = true
    ∧ (findEntry 0x2000 1).any (fun en => en.right == .cmt && en.group == 0 && !en.shared && mayWrite bad en (0x2000, 1)) = true
    ∧ (groupStat (portState [] [] []) (some 0) 4).mode = .clean ∧ (groupStat (portState [] [] [(4, waitingStat)]) (some 0) 4).mode = .waiting
    ∧ (groupStat good (some 0) 4).mode = .dirty ∧ validate good (some 0) 4 = none ∧ atOnce good (some 0) 4 = true
    ∧ (groupStat busy (some 0) 4).mode = .dirty ∧ validate busy (some 0) 4 = none ∧ atOnce busy (some 0) 4 = false
    ∧ (groupStat bad (some 0) 0).mode = .dirty ∧ validate bad (some 0) 0 ≠ none
    ∧ presentEngines good = [0] ∧ presentEngines bad = [0] ∧ presentEngines busy = [0] := by decide +kernel
/-! ## Witnesses: jobs and maps -/

/-- The bytes of a map of one set of chips 0 to 3 with one window of engine 0, in its header the digest of what follows it. -/
def mapOfGen (gen : Nat) : List Byte :=
  let body := leBytes 0 4 ++ (List.range 4).flatMap (fun c => leBytes (put c 13 19 + put c 16 3) 4) ++ zeros 4
    ++ leBytes (put 16 32 208 + put 4 32 176 + put 32 32 144 + put 33 24 120 + put 34 24 96) 32
  blake3 body ++ leBytes (put 0x435a534d 32 224 + put 1 16 208 + put 7 16 192 + put gen 16 176 + put 1 16 160 + put 2 8 136 + put 2 8 128
    + put 1 8 120 + put 4 8 112 + put 1 8 104) 32 ++ body

/-- A job blob of generation 7, revision 1, that starts after step 3 with that map. -/
def blobOf (program : List Byte) : List Byte :=
  let body := program ++ mapOfGen 1
  blake3 body ++ leBytes (put 0x435a4a42 32 224 + put 7 32 192 + put 1 16 176 + put 3 32 123) 32 ++ body

theorem witness_JobCommands_map : ∀ gen ∈ [2, 3],
    let s := live [hot] [] []
    let bs := mapOfGen gen
    servesB s (some 0) 0 = true ∧ bs ≠ [] ∧ bs.length ≤ 256 ∧ (groupStat s (some 0) 2).mode ≠ .waiting
    ∧ (stageCheck (noAsm s (some 0)) 0 bs == 0) = (gen == 2) := by decide +kernel

theorem witness_JobCommands_whole : ∀ (s : State) (e : EngineId) (r : Nat × Nat) (bs : List Byte), bs ≠ [] → bs.length ≤ 256 →
    Whole s (some e) r 0x8000 bs bs := fun _ _ _ _ h1 h2 => ⟨by decide, ⟨h1, h2⟩, .inl ⟨by decide, rfl⟩⟩

/-- A ring of one record of a spare that has not swept, and of one that has. -/
theorem witness_JobCommands_ring : ∀ swept : Bool,
    let s := (live [hot] [] []).modReb 0 (fun r => { r with enrolled := true, sweptSince := swept })
    servesB s (some 0) 0 = true ∧ (zeros 256).length ≤ 262144 ∧ (s.eng 0).reb.enrolled = true ∧ (s.eng 0).reb.sweptSince = swept
    ∧ (List.range ((256 + 255) / 256)).all (fun i => ringRecOk (noAsm s (some 0)) 0 i (slice (zeros 256) (256 * i) 256)) = true
    ∧ (stepRing s 0).1 + 256 ≤ stackBytes ∧ (s.eng 0).mem.hbm.wf = true := by decide +kernel

/-- Where this program digest is in force, a blob that can be staged on an engine that is not armed, and one that stays out of an
armed one. -/
theorem witness_JobCommands_blob : let bs := blobOf (zeros 32)
    let s := portState [] [] []
    let u := noAsm s (some 0)
    let b := (parseBlob bs).2
    servesB s (some 0) 0 = true ∧ bs.length ≤ 256 ∧ 96 ≤ bs.length ∧ s.group.lc.state ≠ .provisioned ∧ armed s 0 = false ∧ silverBusy u 0 = false
    ∧ (parseBlob bs).1 = 0x435a4a42 ∧ blake3 (bs.drop 64) = b.digest ∧ (mapCheck u 0 false b.mapBytes).1 = 0 ∧ (s.eng 0).job.staged = none
    ∧ servesB (live [hot] [] []) (some 0) 0 = true ∧ armed (live [hot] [] []) 0 = true ∧ silverBusy (noAsm (live [hot] [] []) (some 0)) 0 = false := by
  decide +kernel

/-- A blob staged beside its program. -/
def blobStaged : JobBlob :=
  { jobGen := 7, rev := 1, initialStep := 3, seed := 0, childTimeout := 0, digest := zeros 32, program := [1], map := smallMap [hot], mapBytes := [] }

def armable : State :=
  (portState (descs 0 ++ [((regStepRingBase.1, regStepRingBase.2, 0), 0x1000), ((regDeltaGatherBase.1, regDeltaGatherBase.2, 0), 0x2000)]) [] []).modEng 0
    (fun g => { g with job := { g.job with staged := some blobStaged }, dict := { g.dict with digest := [1] } })

theorem witness_JobCommands_arm : let bs := leBytes 7 4 ++ leBytes 1 2 ++ zeros 32
    let u := noAsm armable (some 0)
    servesB armable (some 0) 0 = true ∧ bs.length = 38 ∧ armable.group.lc.state ≠ .provisioned ∧ armed armable 0 = false ∧ silverBusy u 0 = false
    ∧ (armable.eng 0).job.staged = some blobStaged ∧ leAt bs 0 4 = blobStaged.jobGen ∧ leAt bs 4 2 = blobStaged.rev
    ∧ slice bs 6 32 = blobStaged.digest ∧ updateDigest u 0 = blobStaged.program ∧ armBroken (withJob u 0 blobStaged) 0 = false := by decide +kernel

/-- A generation that is being silvered. -/
theorem witness_JobCommands_silver :
    let s := (portState [] [] []).modSnap 0 (fun x => { x with snap := some { aStaged with running := true } })
    servesB s (some 0) 0 = true ∧ silverBusy s 0 = true ∧ s.group.lc.state ≠ .provisioned ∧ (zeros 8).length ≤ 256 := by decide +kernel

/-- A waiting generation at its safe point: on a member, and on a spare that it enrols. -/
theorem witness_JobCommands_safePoint :
    let m := smallMap [hot]
    let bs := mapOfGen 2
    let s := (live [hot] [] []).modDict 0 (fun d => { d with groups := [(2, waitingStat)], stagedMap := some ({ m with gen := 2 }, bs) })
    let spare := s.modJob 0 (fun j => { j with memberSlot := 0xff })
    ∀ t ∈ [s, spare], armed t 0 = true ∧ (groupStat t (some 0) 2).mode = .waiting ∧ mapSafe t 0 = true ∧ validate t (some 0) 2 = none
      ∧ (t.eng 0).dict.stagedMap = some ({ m with gen := 2 }, bs) ∧ (t.eng 0).fab.mustCommit = none
      ∧ slotIn t { m with gen := 2 } ≠ 0xff := by decide +kernel

/-- A round with a channel of weight 0 that another outbids, and alone; and with the weights waiting to change. -/
theorem witness_JobCommands_round :
    let x : Sent := { dest := [1], chunk := deltaIn }
    let y : Sent := { dest := [1], chunk := gparityIn }
    let regs : RegFile := [((regVcWeightD.1, regVcWeightD.2, 0), 0)]
    let s := fun (l : List Sent) => (live [hot] regs []).modFab 0 (fun f => { f with egress := l, credits := [(0, 1), (1, 1)] })
    vcWeight (s [x]) 0 0 = 0 ∧ wantsSlot (s [x, y]) 0 1 = true ∧ vcWeight (s [x, y]) 0 1 ≠ 0 ∧ (∀ w ∈ [1, 2, 3], wantsSlot (s [x]) 0 w = false)
    ∧ (groupStat (s [x]) (some 0) 1).mode ≠ .waiting
    ∧ (groupStat ((s [x]).modDict 0 (fun d => { d with groups := [(1, waitingStat)] })) (some 0) 1).mode = .waiting := by decide +kernel
/-! ## Witnesses: resets and bring-up -/

def run (absorb done signal fault : Bool) : ResetRun := { absorb := absorb, done := done, group := false, signal := signal, fault := fault }

def resetting (s : State) (r : ResetRun) : State := s.modBring 0 (fun b => { b with rst := some r })

/-- No reset, one that drains, a facet that no reset holds, an isolated position; a facet that drains. -/
theorem witness_ResetRequests :
    let drains := modFacet fabState 0 0 (fun x => { x with inReset := true })
    let isolated := fabState.modBring 0 (fun b => { b with position := .isolated })
    (fabState.eng 0).bring.rst = none ∧ ((resetting fabState (run false false true false)).eng 0).bring.rst = some (run false false true false)
    ∧ present fabState 0 = true ∧ (isolated.eng 0).bring.position = .isolated ∧ isolated.group.lc.state ≠ .returned
    ∧ bit (facetMask fabState) 0 = true ∧ (facetOf fabState 0 0).inReset = false ∧ fabState.group.lc.blowing = none
    ∧ facetDrains drains 0 0 = true ∧ (drains.eng 0).bring.rst = none := by decide +kernel

theorem witness_ResetsEnd :
    let f := fun (done powered : Bool) (source : Nat) => modFacet (fabState.modBring 0 (fun b => { b with lastReset := BitVec.ofNat 64 (put source 2 11) })) 0 0
      (fun x => { x with inReset := true, rstDone := done, powered := powered })
    let g := fun (chip signal : Bool) => fabState.modCoord (fun x => { x with groupRst := some { absorb := true, done := false, signal := signal, chip := chip } })
    quiet (resetting fabState (run true false true false)) 0 = true
    ∧ (∀ p ∈ (fabState.eng 0).job.slots, p.2.state = .free)
    ∧ (∀ chip signal : Bool, (g chip signal).group.coord.groupRst = some { absorb := true, done := false, signal := signal, chip := chip }
        ∧ ∀ d : Fin 12, quiet (g chip signal) d = true)
    ∧ (facetOf (f false true sourceDict) 0 0).inReset = true ∧ (facetOf (f false true sourceDict) 0 0).rstDone = false
    ∧ (facetOf (f false true sourceDict) 0 0).active = none ∧ (facetOf (f false true sourceDict) 0 0).laneActive = none
    ∧ bits ((f false true sourceDict).eng 0).bring.lastReset.toNat 12 11 = sourceDict
    ∧ bits ((f false true sourceSignal).eng 0).bring.lastReset.toNat 12 11 ≠ sourceDict
    ∧ (facetOf (f true true sourceSignal) 0 0).rstDone = true ∧ (facetOf (f true true sourceSignal) 0 0).queue = [] := by decide +kernel

/-- A domain of an engine, of the group and of the tier port; an island that is good. -/
theorem witness_ResetsEnd_faults : ∀ d ∈ [0, 36, 39],
    let s := (fabState.modCoord (fun x => { x with clocks := List.range 40 })).modBring 0 (fun b => { b with islandGood := true })
    s.group.coord.clocks.contains d = true ∧ present s 0 = true ∧ present s 1 = false
    ∧ (s.eng 0).bring.fault = none ∧ (s.eng 0).bring.facetFaults = [] ∧ (s.eng 0).bring.rst = none ∧ (s.eng 0).bring.islandGood = true := by
  decide +kernel

/-- Engine 0 with the reports of these stages, all passed. -/
def atStage (n : Nat) : State := State.reset.modBring 0 (fun b => { b with
  report := (List.range n).map (fun i => (i, reportWord i 1 0 0 0)), position := if 3 < n then .present else .inReset, kat := decide (5 < n) })

theorem witness_BringUpStages :
    stageOpen (risingState true) 0 0 = true ∧ ((risingState true).eng 0).bring.islandGood = true
    ∧ (∀ f ∈ liveFacets (risingState true) 0, (facetOf (risingState true) 0 f).powered = true)
    ∧ stageOpen (atStage 1) 0 1 = true ∧ fusesValid bt9Fuses.toNat 0 = true ∧ fusesValid 0 0 = false
    ∧ stageOpen (atStage 2) 0 2 = true ∧ (atStage 2).group.lc.fusesOk = true ∧ (atStage 2).group.lc.state ≠ .returned
    ∧ stageOpen (atStage 3) 0 3 = true ∧ reg (atStage 3) 0 regDictFormat = 1
    ∧ stageOpen (atStage 4) 0 4 = true ∧ ((atStage 4).eng 0).bring.peers = [] ∧ ((atStage 4).eng 0).job.staged = none
    ∧ (AList.get? (atStage 4).group.dict.images 0).bind (·.job) = none
    ∧ (((atStage 4).modBring 0 (fun b => { b with peers := [2] })).eng 0).bring.peers.contains 2 = true
    ∧ ((atStage 5).eng 0).bring.rst = none ∧ (atStage 5).group.coord.groupRst = none ∧ stagePassed (atStage 5) 0 4 = true
    ∧ ((atStage 5).eng 0).bring.kat = false ∧ stageResult (atStage 5) 0 5 ≠ some 3 := by decide +kernel

/-- One pass of the memory test: a row that reads wrongly and is repaired, one for which no row is left, one that fails again, and an
address outside the stack. -/
theorem witness_BringUpStages_memory : let s := (atStage 2).modLc (fun l => { l with fuses := bt9Fuses ||| BitVec.ofNat 64 (put 1 4 44) })
    let wrong : TestRead := { pass := 0, granule := 5, data := [], status := some 0 }
    let right : TestRead := { pass := 0, granule := 5, data := testPattern 0 5, status := some 0 }
    let good : RowRepair := { spares := some 3, retest := [right] }
    failingRows s [wrong] = [Config.memRow 5] ∧ failingRows s [right] = [] ∧ good.spares.isSome = true ∧ good.retest.any testBad = false
    ∧ [wrong].any testBad = true ∧ testOutside { wrong with status := some 3 } = true ∧ stageOpen s 0 2 = true := by
  have h0 : testBad { pass := 0, granule := 5, data := testPattern 0 5, status := some 0 } = false := by decide +kernel
  have h1 : testBad { pass := 0, granule := 5, data := [], status := some 0 } = true := by decide +kernel
  have h2 : 0 < testPasses ((atStage 2).modLc (fun l => { l with fuses := bt9Fuses ||| BitVec.ofNat 64 (put 1 4 44) })) := by decide +kernel
  refine ⟨by simp [failingRows, h1, h2]; rfl, by simp [failingRows, h0], by decide +kernel, by decide +kernel, by decide +kernel, by decide +kernel,
    by decide +kernel⟩

/-- An image with one word of the issue group that validates. -/
theorem witness_BringUpStages_image : let i : DictImage := { format := 1, words := [((regDeltaGatherBase.1, regDeltaGatherBase.2, 0), 0x2000)], blobs := [], job := none, armed := false }
    i.format = reg (atStage 3) 0 regDictFormat ∧ imageGroups 0 i = [(some 0, 0)]
    ∧ ∀ p ∈ imageGroups 0 i, validate (loadImage (atStage 3) 0 i) p.1 p.2 = none := by decide +kernel

/-- An engine reset within its job that has passed its self-test: it re-arms in the staged job. -/
theorem witness_BringUpStages_rearm :
    let s := ((atStage 6).modBring 0 (fun b => { b with form1 := true, warm := true })).modJob 0 (fun j => { j with staged := some blobStaged })
    (s.eng 0).job.staged = some blobStaged ∧ (s.eng 0).bring.form1 = true ∧ (s.eng 0).bring.warm = true ∧ (s.eng 0).bring.kat = true
    ∧ stageOpen s 0 6 = true ∧ stagePassed s 0 4 = true := by decide +kernel

theorem witness_BringUpStages_instruments : (∀ i ∈ [Instrument.sramSelfTest 0 0, .knownAnswer 0, .scan (.facet 0) 0, .scan .engine 0, .trace, .fuseReader, .sramFlipMask 0 0 0 1],
      instrumentOpen State.reset i = true)
    ∧ instrumentOpen (fabState.modLc (fun l => { l with state := .operate })) .trace = false := by decide +kernel

/-! ## Witnesses: the machine, the code and single rules -/

/-- The premise holds right after reset, where a step is the idle step. -/
theorem witness_StepKeepsMemoryCanonical : (State.reset.tier.wf = true ∧ ∀ e : Fin 12, (State.reset.eng e).mem.hbm.wf = true
    ∧ (State.reset.eng e).job.accCache.wf = true) ∧ step State.reset = .next { State.reset with time := State.reset.time + 1 } :=
  ⟨by decide +kernel, rfl⟩

/-- The smallest geometry with column 0 erased. -/
theorem witness_DecodeRecovers : let o : Geo := { k := 2, g := 2, m := 1 }
    o.ok o.n = true ∧ 0 < o.n ∧ bit 1 0 = true ∧ (∃ cols, survivors o 1 = some cols) ∧ ∃ cs, decodeRow o 1 0 = some cs :=
  ⟨by decide +kernel, by decide +kernel, by decide, Option.isSome_iff_exists.1 (by decide +kernel), Option.isSome_iff_exists.1 (by decide +kernel)⟩

/-- Index 0x1000, an index of one sub-index and one with no entry. -/
theorem witness_SubIndexZero : let s := portState [] [] []
    servesB s (some 0) 0 = true ∧ (findEntry 0x4000 1).any (fun en => en.shared == (some (0 : EngineId)).isNone) = true
    ∧ (∀ m ∈ List.range 256, findEntry 0x5fff m = none) ∧ findEntry 0x4000 0x40 = none := by decide +kernel

theorem witness_ChallengeRule : State.reset.group.lc.blowing = none ∧ stageOpen (atStage 1) 0 1 = true ∧ ((atStage 1).eng 0).bring.form1 = false
    ∧ fusesValid bt9Fuses.toNat 0 = true ∧ authData 1 10 0 ≠ [] ∧ (authData 1 10 0).length ≤ 256 := by decide +kernel

/-- Granule 0x440 lies in row 1 of window 0, in which this member holds parity. -/
theorem witness_ParityWriteRefused : present fabState 0 = true ∧ runPrivate fabState 0 0x440 1 = false
    ∧ windowAt fabState 0 (64 * 0x440) = some (hot, 1) ∧ holdsData fabState 0 1 = false ∧ fabState.group.ev.queue.length < 256 := by
  decide +kernel

/-- A full queue of warnings; one whose fourth record is of severity 0; a record of each severity. -/
theorem witness_EventQueueRule :
    let r := fun (sev : Nat) => ({ time := 0, step := 0, code := 1, engine := 0, facet := 0xf, severity := sev, stream := 0, status := 0, tag := 0, args := 0 } : EventRec)
    let older := List.replicate 3 (r 1)
    let newer := List.replicate 252 (r 1)
    let info := State.reset.modGDict (fun d => { d with regs := [((regEventInfoEnable.1, regEventInfoEnable.2, 0), 1)] })
    (List.replicate 256 (r 1)).length = 256 ∧ (∀ q ∈ List.replicate 256 (r 1), q.severity ≠ 0)
    ∧ (older ++ r 0 :: newer).length = 256 ∧ (∀ x ∈ newer, x.severity ≠ 0) ∧ (r 3).severity = 3
    ∧ greg info regEventInfoEnable ≠ 0 ∧ greg (State.reset.modGDict (fun d => { d with regs := [((regEventInfoEnable.1, regEventInfoEnable.2, 0), 0)] })) regEventInfoEnable = 0
    ∧ (r 0).code ≠ evConfigApplied ∧ State.reset.group.ev.queue.length < 256 := by decide +kernel

end Sys2Proof.Tests
end

/-! ## An agent's write that the engine refuses (01 R24) -/

namespace Sys2Proof.Machine

open Sys2Proof

/-! ### What the window and the column of a granule depend on -/

/-- The window of an address is a matter of the engine's job alone. -/
theorem windowAt_of_job_eq {s t : State} {e : EngineId} (h : (t.eng e).job = (s.eng e).job) (a : Nat) :
    windowAt t e a = windowAt s e a := by
  simp [windowAt, myWindows, mapOf, h]

/-- Whether a row's pane here is data is a matter of the engine's job alone. -/
theorem holdsData_of_job_eq {s t : State} {e : EngineId} (h : (t.eng e).job = (s.eng e).job) (row : Nat) :
    holdsData t e row = holdsData s e row := by
  simp [holdsData, myColumn, mySlot, geo, mapOf, h]

/-! ### Event records -/

theorem greg_of_group_eq {s t : State} (h : t.group = s.group) (r : Nat × Nat) : greg t r = greg s r := by
  simp [greg, isSix, variant, h]

/-- What becomes of an offered record is decided by the group's state alone. -/
theorem offer_group_of_group_eq {s t : State} (h : t.group = s.group) (r : EventRec) :
    (offer t r).group = (offer s r).group := by
  simp only [offer, greg_of_group_eq h, h]
  split
  · simp [gbump, h]
  · split
    · simp [queueRec, gbump, h]
    · split
      · simp [dropRec, gbump, h]
      · split <;> simp [queueRec, dropRec, gbump, h]

/-- A record about an engine carries the time and that engine's step, and nothing else of the state. -/
theorem raise_group_of_eq {s t : State} {e : EngineId} (hg : t.group = s.group) (ht : t.time = s.time)
    (hj : (t.eng e).job = (s.eng e).job) (code sev args : Nat) :
    (raise t e code sev args).group = (raise s e code sev args).group := by
  simp only [raise, raiseFor, stepNumber, ht, hj]
  exact offer_group_of_group_eq hg _

/-- A record that is not suppressed joins a queue with room (01 R45, 14 R377). -/
theorem offer_of_room {s : State} {r : EventRec} (hroom : s.group.ev.queue.length < 256)
    (hkept : r.severity ≠ 0 ∨ greg s regEventInfoEnable ≠ 0 ∨ r.code = evConfigApplied) : offer s r = queueRec s r := by
  have hcond : (r.severity == 0 && greg s regEventInfoEnable == 0 && r.code != 0x0110) = false := by
    rcases hkept with h | h | h
    · simp [h]
    · simp [h]
    · simp [h, evConfigApplied]
  simp [offer, hcond, hroom]

@[simp] theorem queueRec_queue (s : State) (r : EventRec) :
    (queueRec s r).group.ev.queue = s.group.ev.queue ++ [r] := rfl

/-- A record of severity 1 or more about an engine is the newest of a queue that had room. -/
theorem raise_queue_of_room {s : State} (e : EngineId) (code args : Nat) {sev : Nat} (hroom : s.group.ev.queue.length < 256)
    (hsev : sev ≠ 0) : ∃ x : EventRec, (raise s e code sev args).group.ev.queue = s.group.ev.queue ++ [x]
      ∧ x.code = code ∧ x.engine = e.val ∧ x.severity = sev := by
  refine ⟨{ time := s.time, step := stepNumber s e, code := code, engine := e.val, facet := 0xf, severity := sev,
            stream := 0, status := 0, tag := 0, args := args % 2 ^ 96 }, ?_, rfl, rfl, rfl⟩
  rw [raise, raiseFor, offer_of_room hroom (.inl hsev), queueRec_queue]

/-! ### The taps that see a write first (11 R309) -/

/-- What the taps of engine `e` leave alone: the stack, the instructions, the job and the fabric of the engine, the other engines,
the tier, the group and the time. Sums of taps, counters and free values are theirs to change. -/
structure TapFrame (s t : State) (e : EngineId) : Prop where
  mem   : (t.eng e).mem = (s.eng e).mem
  iss   : (t.eng e).iss = (s.eng e).iss
  job   : (t.eng e).job = (s.eng e).job
  fab   : (t.eng e).fab = (s.eng e).fab
  elsewhere : Claims.Local s t e
  group : t.group = s.group
  time  : t.time = s.time

theorem TapFrame.refl (s : State) (e : EngineId) : TapFrame s s e :=
  ⟨rfl, rfl, rfl, rfl, ⟨fun _ _ => rfl, rfl⟩, rfl, rfl⟩

theorem TapFrame.trans {s t u : State} {e : EngineId} (h : TapFrame s t e) (k : TapFrame t u e) : TapFrame s u e where
  mem := k.mem.trans h.mem
  iss := k.iss.trans h.iss
  job := k.job.trans h.job
  fab := k.fab.trans h.fab
  elsewhere := ⟨fun d hd => (k.elsewhere.1 d hd).trans (h.elsewhere.1 d hd), k.elsewhere.2.trans h.elsewhere.2⟩
  group := k.group.trans h.group
  time := k.time.trans h.time

theorem tapAdd_frame (s : State) (e : EngineId) (t g : Nat) (b : BitVec 64) (d : List Byte) :
    TapFrame s (tapAdd s e t g b d) e where
  mem := by simp [tapAdd]
  iss := by simp [tapAdd]
  job := by simp [tapAdd]
  fab := by simp [tapAdd]
  elsewhere := ⟨fun d hd => eng_modLou_other s e d _ hd, rfl⟩
  group := rfl
  time := rfl

theorem bumpCycles_frame (s : State) (e : EngineId) (r : Nat × Nat) (i : Nat) : TapFrame s (bumpCycles s e r i) e := by
  have heng : ∀ d, (bumpCycles s e r i).eng d = (bumpAt s e r i (Config.stallCycles s.freeCount)).eng d := fun _ => rfl
  refine ⟨?_, ?_, ?_, ?_, ⟨fun d hd => (heng d).trans (bumpAt_eng_other s e d r i _ hd), rfl⟩, rfl, rfl⟩ <;>
    rw [heng, bumpAt_eng_self]

theorem foldl_tapAdd_frame (ts : List Nat) (s : State) (e : EngineId) (g : Nat) (b : BitVec 64) (d : List Byte) :
    TapFrame s (ts.foldl (fun s t => tapAdd s e t g b d) s) e := by
  induction ts generalizing s with
  | nil => exact .refl s e
  | cons t ts ih => exact (tapAdd_frame s e t g b d).trans (ih _)

theorem tapWrite_frame (s : State) (e : EngineId) (g : Nat) (b : BitVec 64) (d : List Byte) :
    TapFrame s (tapWrite s e g b d) e := by
  have hadds := foldl_tapAdd_frame ((List.range 4).filter (fun t => tapCovers s e t g)) s e g b d
  simp only [tapWrite]
  split
  · exact hadds
  · exact hadds.trans (bumpCycles_frame _ e _ 0)

theorem tapRun_frame (bs : List (BitVec 64)) (s : State) (e : EngineId) (g : Nat) (d : List Byte) :
    TapFrame s (tapRun bs s e g d) e := by
  induction bs generalizing s g d with
  | nil => exact .refl s e
  | cons b bs ih => exact (tapWrite_frame s e g b _).trans (ih _ _ _)

/-! ### The refusal -/

/-- A refusal completes the write with 0x60 and changes nothing else of the stack. -/
theorem refuseWrite_mem (s : State) (e : EngineId) (g : Nat) : ((refuseWrite s e g).eng e).mem = { (s.eng e).mem with
    agentOut := (s.eng e).mem.agentOut ++ [{ granule := g, write := true, status := 0x60, data := [] }] } := by
  simp [refuseWrite, agentDone]

theorem refuseWrite_group (s : State) (e : EngineId) (g : Nat) :
    (refuseWrite s e g).group = (raise s e evCodedWriteRefused 2 (g % 2 ^ 36)).group := rfl

/-- A present engine refuses a write of a pane that is no data of a STATE window, once its taps have seen it. -/
theorem codedPane_refused {s : State} {e : EngineId} {g : Nat} {bs : List (BitVec 64)} {w : Window} {r : Nat} (d : List Byte)
    (hpresent : present s e = true) (hprivate : runPrivate s e g bs.length = false) (hwin : windowAt s e (64 * g) = some (w, r))
    (hrow : w.cls ≠ 0 ∨ holdsData s e r = false) : codedPane s e g bs d = refuseWrite (tapRun bs s e g d) e g := by
  have hjob := (tapRun_frame bs s e g d).job
  have hrefused : (w.cls != 0 || !holdsData s e r) = true := by
    rcases hrow with h | h <;> simp [h]
  simp [codedPane, hpresent, hprivate, windowAt_of_job_eq hjob, holdsData_of_job_eq hjob, hwin, hrefused]

/-! ### A run within one pane -/

/-- Granules of one pane are a single part. -/
theorem paneRuns_of_fits {g : Nat} {bs : List (BitVec 64)} (d : List Byte) (hne : bs ≠ []) (hstack : g < stackGranules)
    (hfits : g % 64 + bs.length ≤ 64) : paneRuns bs.length g bs d = [(g, bs, d.take (64 * (64 - g % 64)))] := by
  have hnil : ∀ n a (l : List Byte), paneRuns n a [] l = [] := by
    intro n a l
    cases n <;> simp [paneRuns]
  have hlen : bs.length ≤ 64 - g % 64 := by omega
  obtain ⟨n, hn⟩ := Nat.exists_eq_succ_of_ne_zero (mt List.length_eq_zero_iff.1 hne)
  rw [hn, paneRuns]
  simp [hne, Nat.not_le.2 hstack, List.take_of_length_le hlen, List.drop_of_length_le hlen, hnil]

theorem codedWrite_of_fits {g : Nat} {bs : List (BitVec 64)} (s : State) (e : EngineId) (d : List Byte) (hne : bs ≠ [])
    (hstack : g < stackGranules) (hfits : g % 64 + bs.length ≤ 64) :
    codedWrite s e g bs d = codedPane s e g bs (d.take (64 * (64 - g % 64))) := by
  simp [codedWrite, paneRuns_of_fits d hne hstack hfits]

/-- A run of one pane that is no data of a STATE window: the taps see it and the engine refuses it. -/
theorem codedWrite_refused {s : State} {e : EngineId} {g : Nat} {bs : List (BitVec 64)} {w : Window} {r : Nat} (d : List Byte)
    (hne : bs ≠ []) (hstack : g < stackGranules) (hfits : g % 64 + bs.length ≤ 64) (hpresent : present s e = true)
    (hprivate : runPrivate s e g bs.length = false) (hwin : windowAt s e (64 * g) = some (w, r))
    (hrow : w.cls ≠ 0 ∨ holdsData s e r = false) : ∃ t, TapFrame s t e ∧ codedWrite s e g bs d = refuseWrite t e g :=
  ⟨_, tapRun_frame bs s e g _,
    (codedWrite_of_fits s e d hne hstack hfits).trans (codedPane_refused _ hpresent hprivate hwin hrow)⟩

theorem exec_codedWrite (s : State) (e : EngineId) (granule : BitVec 30) (bs : List (BitVec 64)) (d : List Byte) :
    exec (.codedWrite e granule bs d) s = .next (settle (codedWrite s e granule.toNat bs d) e) := rfl

end Sys2Proof.Machine

namespace Sys2Proof.Claims

open Sys2Proof Sys2Proof.Machine

/-- Settles O59: the taps leave the stack, the job and the group's state as they are, so the engine finds the parity pane that the
statement names, refuses the write, and raises the record that it would have raised before the taps. -/
theorem parityWriteRefused : Obligations.ParityWriteRefused := by
  unfold Obligations.ParityWriteRefused
  intro s e granule be data w r hne hfits hpresent hprivate hwin hparity
  obtain ⟨t, htaps, hrefused⟩ :=
    codedWrite_refused data hne granule.isLt hfits hpresent hprivate hwin (.inr hparity)
  have hargs : granule.toNat % 2 ^ 36 = granule.toNat := Nat.mod_eq_of_lt (by omega)
  have hgroup : (refuseWrite t e granule.toNat).group = (raise s e evCodedWriteRefused 2 granule.toNat).group := by
    rw [refuseWrite_group, hargs, raise_group_of_eq htaps.group htaps.time htaps.job]
  refine ⟨_, by rw [exec_codedWrite, hrefused], ?_, ?_, by rw [hgroup], fun hroom => ?_⟩
  · rw [refuseWrite_mem, htaps.mem]
  · rw [refuseWrite_mem, htaps.mem]
  · obtain ⟨x, hqueue, hcode, hengine, hsev⟩ :=
      raise_queue_of_room e evCodedWriteRefused granule.toNat hroom two_ne_zero
    exact ⟨x, by rw [hgroup, hqueue], hcode, hengine, by simp [hsev]⟩

end Sys2Proof.Claims

/-! ## Sub-index 0 of an index (13 R356) -/

namespace Sys2Proof.Machine

open Sys2Proof

/-! ### The entries of an index -/

/-- The entries that an index holds: of the counters in their range of indices, otherwise of the rest of the catalogue. -/
def entriesAt (index : Nat) : List Entry :=
  (if 0x9010 ≤ index && index ≤ 0x90ff then counterList.map counterEntry else catalogue).filter (fun e => e.index == index)

theorem findEntry_eq_find? (index sub : Nat) :
    findEntry index sub = (entriesAt index).find? (fun e => e.first ≤ sub && sub ≤ e.last) := by
  simp only [findEntry, entriesAt, List.find?_filter, Bool.and_assoc, Bool.decide_and, Bool.decide_eq_true]

theorem highestSub_eq_max? (index : Nat) : highestSub index = ((entriesAt index).map (·.last)).max? := by
  simp only [highestSub, entriesAt]
  generalize List.filter _ _ = es
  cases es with
  | nil => rfl
  | cons e es => rw [List.map_cons, List.max?_cons', List.foldl_map, List.foldl_cons, Nat.zero_max]

/-- Each catalogue entry takes a range of sub-indices, the last of them a byte. -/
theorem catalogue_subs : ∀ e ∈ catalogue, e.first ≤ e.last ∧ e.last < 256 := by decide +kernel

theorem counterList_subs : ∀ c ∈ counterList, c.2.1 < 256 := by decide +kernel

theorem subs_of_mem_entriesAt {index : Nat} {e : Entry} (h : e ∈ entriesAt index) : e.first ≤ e.last ∧ e.last < 256 := by
  have hmem := List.mem_of_mem_filter h
  split at hmem
  · obtain ⟨c, hc, rfl⟩ := List.mem_map.1 hmem
    exact ⟨le_rfl, counterList_subs c hc⟩
  · exact catalogue_subs e hmem

theorem findEntry_isSome_iff {index sub : Nat} :
    (findEntry index sub).isSome = true ↔ ∃ e ∈ entriesAt index, e.first ≤ sub ∧ sub ≤ e.last := by
  simp [findEntry_eq_find?, List.find?_isSome]

theorem highestSub_eq_some_iff {index n : Nat} :
    highestSub index = some n ↔ (∃ e ∈ entriesAt index, e.last = n) ∧ ∀ e ∈ entriesAt index, e.last ≤ n := by
  simp [highestSub_eq_max?, List.max?_eq_some_iff]

/-- The highest sub-index in use is a byte, it is in use, and none above it is. -/
theorem highestSub_spec {index n : Nat} (h : highestSub index = some n) :
    n < 256 ∧ (findEntry index n).isSome = true ∧ ∀ m, n < m → findEntry index m = none := by
  obtain ⟨⟨e, he, rfl⟩, hmax⟩ := highestSub_eq_some_iff.1 h
  obtain ⟨hrange, hbyte⟩ := subs_of_mem_entriesAt he
  refine ⟨hbyte, findEntry_isSome_iff.2 ⟨e, he, hrange, le_rfl⟩, fun m hm => ?_⟩
  rw [← Option.not_isSome_iff_eq_none, findEntry_isSome_iff]
  rintro ⟨d, hd, -, hlast⟩
  exact absurd (hmax d hd) (by omega)

/-- An index of an entry has a highest sub-index. -/
theorem exists_highestSub_of_findEntry {index sub : Nat} (h : (findEntry index sub).isSome = true) :
    ∃ n, highestSub index = some n := by
  obtain ⟨e, he, -⟩ := findEntry_isSome_iff.1 h
  rw [highestSub_eq_max?]
  exact Option.ne_none_iff_exists'.1 (by simpa using List.ne_nil_of_mem he)

/-! ### What an index holds for a scope -/

/-- An index holds an entry for a scope: one of the scope's own, or it is 0x1000, which every scope reads. -/
def HoldsEntries (sc : Scope) (index : Nat) : Prop :=
  index = 0x1000 ∨ ∃ m en, m < 256 ∧ findEntry index m = some en ∧ en.shared = sc.isNone

theorem exists_highestSub_of_holdsEntries {sc : Scope} {index : Nat} (h : HoldsEntries sc index) : ∃ n, highestSub index = some n := by
  rcases h with rfl | ⟨m, en, -, hfind, -⟩
  · exact exists_highestSub_of_findEntry (sub := 1) (by decide +kernel)
  · exact exists_highestSub_of_findEntry (Option.isSome_of_eq_some hfind)

/-! ### What sub-index 0 answers -/

theorem serveSub0_of_holdsEntries {s : State} {sc : Scope} {index n : Nat} {t : Txn} (hheld : HoldsEntries sc index)
    (hn : highestSub index = some n) : serveSub0 s sc index t =
      if isWrite t then refused s 2 (index, 0)
      else if t.op != 0#2 || t.length.toNat != 1 || t.segment != 0#16 then refused s 3 (index, 0)
      else served s { Ans.done with data := [BitVec.ofNat 8 n] } := by
  rcases hheld with rfl | ⟨m, en, hm, hfind, hshared⟩
  · simp [serveSub0, hn]
  · simp only [serveSub0, hn]
    refine if_neg ?_
    rw [Bool.not_eq_true', Bool.not_eq_false, Bool.or_eq_true]
    exact .inr (List.any_eq_true.2 ⟨m, List.mem_range.2 hm, by simp [hfind, hshared]⟩)

theorem serveSub0_of_empty {s : State} {sc : Scope} {index : Nat} {t : Txn} (h : ∀ m, m < 256 → findEntry index m = none) :
    serveSub0 s sc index t = refused s 1 (index, 0) := by
  have hnone : highestSub index = none := by
    by_contra hsome
    obtain ⟨n, hn⟩ := Option.ne_none_iff_exists'.1 hsome
    obtain ⟨hbyte, hused, -⟩ := highestSub_spec hn
    simp [h n hbyte] at hused
  simp [serveSub0, hnone]

theorem serveOne_sub0 {s : State} {sc : Scope} {t : Txn} (h : t.sub = 0) :
    serveOne s sc t = serveSub0 s sc t.index.toNat t := by
  simp [serveOne, h]

theorem serveOne_of_no_entry {s : State} {sc : Scope} {t : Txn} (hsub : t.sub ≠ 0)
    (hfind : findEntry t.index.toNat t.sub.toNat = none) : serveOne s sc t = refused s 1 (t.index.toNat, t.sub.toNat) := by
  have hsub' : t.sub.toNat ≠ 0 := fun h => hsub (BitVec.eq_of_toNat_eq h)
  simp [serveOne, hsub', hfind]

end Sys2Proof.Machine

namespace Sys2Proof.Claims

open Sys2Proof Sys2Proof.Machine

/-! ### The port -/

theorem exec_registerWrite (s : State) (t : Txn) : exec (.registerWrite t) s = .next (transact s t) := rfl

/-- A transaction that a scope serves is answered with what the scope makes of it. -/
theorem exec_registerWrite_of_serves {s : State} {sc : Scope} {t : Txn} (h : Serves s sc t.engineSel) :
    exec (.registerWrite t) s = .next (respond (serveOne s sc t).1 t.engineSel.toNat (serveOne s sc t).2) := by
  obtain ⟨hidle, hnamed⟩ := h
  rw [exec_registerWrite]
  cases sc with
  | none => simp [transact, hidle, show t.engineSel = 0xe from hnamed]
  | some e =>
    obtain ⟨hsel, hpresent⟩ := hnamed
    have hlt : e.val < 12 := e.isLt
    simp [transact, hidle, hsel, hpresent, show e.val ≠ 15 by omega, show e.val ≠ 14 by omega]

theorem respond_onlyResponse (s : State) (n : Nat) (a : Option Ans) : OnlyResponse s (respond s n a) := rfl

theorem respond_served_resp (s : State) (n : Nat) (d : List Byte) :
    (respond s n (some { Ans.done with data := d })).group.dict.resp = some { code := 0, data := d, segment := 0 } := rfl

theorem respond_refuse_refused (s : State) (n : Nat) {code : Nat} (r : Nat × Nat) (hcode : code ≠ 0) :
    Refused (respond s n (some (.refuse code r))) code :=
  ⟨leBytes (rejectData n (Ans.refuse code r).why) 8, rfl, by simp [respond, State.modGDict, State.modGroup, Ans.refuse, hcode]⟩

/-- Where the scope refuses a transaction, the response says so and nothing else changes. -/
theorem exec_registerWrite_refused {s : State} {sc : Scope} {t : Txn} {code : Nat} {r : Nat × Nat} (h : Serves s sc t.engineSel)
    (hcode : code ≠ 0) (hone : serveOne s sc t = refused s code r) :
    Next (exec (.registerWrite t) s) (fun u => Refused u code ∧ OnlyResponse s u) := by
  rw [exec_registerWrite_of_serves h, hone]
  exact ⟨_, rfl, respond_refuse_refused s _ r hcode, respond_onlyResponse s _ _⟩

/-- Settles O57: sub-index 0 answers the greatest last sub-index among the entries of its index, and an index or a sub-index without
an entry has none to answer. -/
theorem subIndexZero : Obligations.SubIndexZero := by
  unfold Obligations.SubIndexZero
  intro s sc t hserves
  refine ⟨fun hsub hheld => ?_, fun hempty => ?_, fun hsub hfind => ?_⟩
  · obtain ⟨n, hn⟩ := exists_highestSub_of_holdsEntries hheld
    have hone := (serveOne_sub0 (s := s) hsub).trans (serveSub0_of_holdsEntries hheld hn)
    refine ⟨fun hop hlen hseg => ?_, fun hwrite => ?_⟩
    · have hread : serveOne s sc t = served s { Ans.done with data := [BitVec.ofNat 8 n] } := by
        simpa [isWrite, hop, hlen, hseg] using hone
      obtain ⟨hbyte, hused, habove⟩ := highestSub_spec hn
      rw [exec_registerWrite_of_serves hserves, hread]
      exact ⟨_, rfl, respond_onlyResponse s _ _, n, hbyte, respond_served_resp s _ _, hused, fun m hm _ => habove m hm⟩
    · exact exec_registerWrite_refused hserves two_ne_zero (hone.trans (if_pos hwrite))
  · by_cases hsub : t.sub = 0
    · exact exec_registerWrite_refused hserves one_ne_zero ((serveOne_sub0 hsub).trans (serveSub0_of_empty hempty))
    · exact exec_registerWrite_refused hserves one_ne_zero (serveOne_of_no_entry hsub (hempty _ t.sub.isLt))
  · exact exec_registerWrite_refused hserves one_ne_zero (serveOne_of_no_entry hsub hfind)

end Sys2Proof.Claims

/-! ## The authentication challenge (16 R423) -/

namespace Sys2Proof.Machine

open Sys2Proof

/-! ### What keeps a challenge and what renews it -/

/-- No time passes and the challenge stands: its creation and the count of challenges. -/
structure KeepsChallenge (s t : State) : Prop where
  time    : t.time = s.time
  created : t.group.lc.challengeT = s.group.lc.challengeT
  count   : t.group.lc.challenges = s.group.lc.challenges

/-- The challenge is one created now, counted modulo 2^32. -/
structure RenewsChallenge (s t : State) : Prop where
  created : t.group.lc.challengeT = s.time
  count   : t.group.lc.challenges = (s.group.lc.challenges + 1) % 2 ^ 32

theorem KeepsChallenge.refl (s : State) : KeepsChallenge s s := ⟨rfl, rfl, rfl⟩

theorem KeepsChallenge.trans {s t u : State} (h : KeepsChallenge s t) (k : KeepsChallenge t u) : KeepsChallenge s u :=
  ⟨k.time.trans h.time, k.created.trans h.created, k.count.trans h.count⟩

theorem KeepsChallenge.of_lc_eq {s t : State} (htime : t.time = s.time) (hlc : t.group.lc = s.group.lc) : KeepsChallenge s t :=
  ⟨htime, congrArg (·.challengeT) hlc, congrArg (·.challenges) hlc⟩

/-- A change at each of several engines keeps the challenge where the change at one does. -/
theorem forEngines_keepsChallenge {f : State → EngineId → State} (hf : ∀ s e, KeepsChallenge s (f s e)) (es : List EngineId)
    (s : State) : KeepsChallenge s (forEngines es f s) := by
  induction es generalizing s with
  | nil => exact .refl s
  | cons e es ih => exact (hf s e).trans (ih (f s e))

theorem newChallenge_renews {s t : State} (h : KeepsChallenge s t) : RenewsChallenge s (newChallenge t) :=
  ⟨h.time, by simp [newChallenge, h.count]⟩

/-- The code of an answer is recorded beside the new challenge. -/
theorem newChallenge_lastAuth_renews {s t : State} (h : KeepsChallenge s t) (code : Nat) :
    RenewsChallenge s ((newChallenge t).modLc (fun l => { l with lastAuth := code })) :=
  ⟨(newChallenge_renews h).created, (newChallenge_renews h).count⟩

/-! ### An authorised request (16 R424, R427) -/

theorem modCoord_keepsChallenge (s : State) (f : Coord → Coord) : KeepsChallenge s (s.modCoord f) := .of_lc_eq rfl rfl

theorem tierGrant_keepsChallenge (s : State) : KeepsChallenge s (tierGrant s) := by
  obtain ⟨-, -, -, htime, hlc, -⟩ := tierGrant_frame s
  exact .of_lc_eq htime hlc

theorem tierStore_keepsChallenge (s : State) (e : EngineId) (cls : Nat) (layer : Nat × Nat) (addr : Nat) (bs : List Byte)
    (after : Option Nat) (cont : TierCont) : KeepsChallenge s (tierStore s e cls layer addr bs after cont) := by
  simp only [tierStore, tierAsk, tierAskParts]
  exact (modCoord_keepsChallenge s _).trans (tierGrant_keepsChallenge _)

/-- The zeros over the manifests are transfers of the tier, which touch no life-cycle state. -/
theorem wipeManifests_keepsChallenge (s : State) : KeepsChallenge s (wipeManifests s) := by
  refine forEngines_keepsChallenge (fun s e => ?_) _ s
  split
  · exact .refl s
  · exact (tierStore_keepsChallenge ..).trans (tierStore_keepsChallenge ..)

theorem beginBlow_keepsChallenge (s : State) (b : FuseBlow) : KeepsChallenge s (beginBlow s b) := by
  have hasked : KeepsChallenge s (s.modLc (fun l => { l with blowing := some b })) := ⟨rfl, rfl, rfl⟩
  cases b with
  | provisioned => exact hasked
  | field => exact hasked
  | returned => exact hasked.trans (wipeManifests_keepsChallenge _)
  | authReturned => exact hasked.trans (wipeManifests_keepsChallenge _)

theorem authFailed_keepsChallenge (s : State) : KeepsChallenge s (authFailed s) := ⟨rfl, rfl, rfl⟩

/-- Refused, performed at once or waiting for the fuses: a complete request renews the challenge. -/
theorem authRequest_renews (s : State) (bs : List Byte) : RenewsChallenge s (authRequest s bs).1 := by
  simp only [authRequest]
  split
  · refine newChallenge_lastAuth_renews ?_ _
    split
    · exact authFailed_keepsChallenge s
    · exact .refl s
  · have hpassed : KeepsChallenge s (s.modLc (fun l => { l with authFails := 0 })) := ⟨rfl, rfl, rfl⟩
    split
    · refine newChallenge_lastAuth_renews ?_ _
      exact hpassed.trans ⟨rfl, rfl, rfl⟩
    · exact newChallenge_renews (hpassed.trans (beginBlow_keepsChallenge _ _))

/-! ### A cold bring-up (15 R409) -/

theorem modBring_keepsChallenge (s : State) (e : EngineId) (f : Bring → Bring) : KeepsChallenge s (s.modBring e f) :=
  .of_lc_eq rfl rfl

theorem modLou_keepsChallenge (s : State) (e : EngineId) (f : Loupe → Loupe) : KeepsChallenge s (s.modLou e f) :=
  .of_lc_eq rfl rfl

theorem report_keepsChallenge (s : State) (e : EngineId) (stage result unit detail : Nat) :
    KeepsChallenge s (report s e stage result unit detail) := modBring_keepsChallenge s e _

theorem coldCounters_challenge (s : State) (e : EngineId) :
    (coldCounters s e).group.lc.challengeT = s.time ∧ (coldCounters s e).group.lc.challenges = 1 := ⟨rfl, rfl⟩

/-- The positions that the fuses leave out are marked apart from the challenge. -/
theorem markFusedOff_keepsChallenge (es : List EngineId) (s : State) :
    KeepsChallenge s (forEngines es (fun s x => if enginePresent s x then s
      else s.modBring x (fun b => { b with position := .fusedOff })) s) := by
  refine forEngines_keepsChallenge (fun s x => ?_) es s
  split
  · exact .refl s
  · exact modBring_keepsChallenge s x _

/-- Stage 1 in FORM 0 with valid fuses creates a challenge once they are read, and keeps it however many macros fail. -/
theorem stage1_keeps_coldCounters {s : State} {e : EngineId} {fuses lcFuses : BitVec 64} (failed : List (Nat × Nat))
    (hopen : stageOpen s e 1 = true) (hcold : (s.eng e).bring.form1 = false)
    (hfuses : fusesValid fuses.toNat lcFuses.toNat = true) :
    ∃ r : State, r.time = s.time ∧ KeepsChallenge (coldCounters r e) (stage1 s e fuses lcFuses failed) := by
  refine ⟨s.modLc (fun l => { l with
    fuses := fuses, lcFuses := lcFuses, fusesOk := true, state := lcOf l.state lcFuses.toNat }), rfl, ?_⟩
  simp only [stage1, hopen, hfuses, modLc_eng, hcold, Bool.not_true, Bool.false_eq_true, if_false, if_true]
  refine (markFusedOff_keepsChallenge allEngines _).trans ?_
  split <;> exact (modLou_keepsChallenge _ _ _).trans (report_keepsChallenge ..)

/-! ### The entries at the port -/

/-- The catalogue's entry of *AUTH_CHALLENGE*. -/
def authChallengeEntry : Entry := ⟨0xc010, 0x01, 0x01, .table 16 1, .ro, 0, 0xff, 1, 0x0, 16, true⟩

/-- The catalogue's entry of *AUTH_REQUEST*. -/
def authRequestEntry : Entry := ⟨0xc010, 0x02, 0x02, .blob 88 88, .wo, 0, 0x0, 1, 0x0, 16, true⟩

theorem findEntry_authChallenge : findEntry 0xc010 1 = some authChallengeEntry := by
  decide +kernel

theorem findEntry_authRequest : findEntry 0xc010 2 = some authRequestEntry := by
  decide +kernel

@[simp] theorem length_leBytes (v n : Nat) : (leBytes v n).length = n := by
  induction n generalizing v with
  | zero => rfl
  | succ n ih => simp [leBytes, ih]

theorem length_challenge (s : State) : (challenge s).length = 16 := by
  simp [challenge, zeros]

/-- The first bytes of a table of byte elements are the bytes of its words, in order. -/
theorem tableBytes_bytes (s : State) (sc : Scope) (index sub n : Nat) :
    tableBytes s sc index sub 1 0 n = (List.range n).map (fun i => BitVec.ofNat 8 (readWord s sc index sub i)) := by
  simp [tableBytes, leBytes, ← List.map_eq_flatMap]

theorem tableBytes_authChallenge (s : State) : tableBytes s none 0xc010 1 1 0 16 = challenge s := by
  rw [tableBytes_bytes]
  have hlen := length_challenge s
  refine List.ext_getElem (by simp [hlen]) fun i _ hi => ?_
  simp [readWord, isCounter, groupView, List.getElem?_eq_getElem hi]

/-- A read that fits a table of the group, outside every commit group, is served with the bytes it names. -/
theorem serveRead13_table {s : State} {en : Entry} {r : Nat × Nat} {t : Txn} {count elem : Nat} (hindex : r.1 ≠ 0x1000)
    (hty : en.ty = .table count elem) (hgroup : en.group = 16) (hfits : fits en t = true) :
    serveRead13 s none en r t
      = served s { Ans.done with data := tableBytes s none r.1 r.2 elem (t.segment.toNat * 256) t.length.toNat } := by
  simp [serveRead13, hindex, hty, hfits, entryWaits, hgroup]

/-- A write that fits a BLOB outside every commit group, which no SILVER holds, is a segment of it. -/
theorem serveWrite13_blob {s : State} {sc : Scope} {en : Entry} {r : Nat × Nat} {t : Txn} {lo hi : Nat} (hty : en.ty = .blob lo hi)
    (hgroup : en.group = 16) (hsilver : silverHolds s sc r = false) (hfits : fits en t = true) :
    serveWrite13 s sc en r t = blobSegment s sc en r lo hi t := by
  simp [serveWrite13, hty, hfits, entryWaits, hgroup, hsilver]

/-- The whole challenge is read by the group's scope as it stands, in every life-cycle state. -/
theorem serveOne_authChallenge {s : State} {t : Txn} (hop : t.op = 3) (hindex : t.index = 0xc010) (hsub : t.sub = 1)
    (hseg : t.segment = 0) (hlen : t.length = 16) :
    serveOne s none t = served s { Ans.done with data := challenge s } := by
  have hfits : fits authChallengeEntry t = true := by
    simp [fits, authChallengeEntry, hop, hseg, hlen, tableGrain]
  have hread : serveOne s none t = serveRead13 s none authChallengeEntry (0xc010, 1) t := by
    simp [serveOne, hindex, hsub, findEntry_authChallenge, authChallengeEntry, isWrite, hop, mayRead]
  rw [hread, serveRead13_table (by decide) rfl rfl hfits, hseg, hlen]
  exact congrArg (fun bs => served s { Ans.done with data := bs }) (tableBytes_authChallenge s)

/-- The only segment of a request completes it, whatever its length (16 R424). -/
theorem blobSegment_authRequest (s : State) (en : Entry) (lo hi : Nat) (sel : BitVec 4) {data : List Byte} (hne : data ≠ []) :
    blobSegment s none en regAuthRequest lo hi (segTxn sel regAuthRequest 0x8000 data) = authRequest (setAsm s none none) data := by
  simp [blobSegment, segTxn, bit, hne, performBlob]

/-- A request that comes in one segment is complete with it, in every life-cycle state. -/
theorem serveOne_authRequest (s : State) {data : List Byte} (hne : data ≠ []) (hsize : data.length ≤ 256) :
    serveOne s none (segTxn 0xe regAuthRequest 0x8000 data) = authRequest (setAsm s none none) data := by
  have hfits : fits authRequestEntry (segTxn 0xe regAuthRequest 0x8000 data) = true := by
    simp [fits, authRequestEntry, segTxn, hsize, Nat.mod_eq_of_lt (show data.length < 512 by omega)]
  have hwrite : serveOne s none (segTxn 0xe regAuthRequest 0x8000 data)
      = serveWrite13 s none authRequestEntry regAuthRequest
          (segTxn 0xe regAuthRequest 0x8000 data) := by
    simp [serveOne, segTxn, regAuthRequest, findEntry_authRequest, authRequestEntry, isWrite, mayWrite, needsField, regJobBlob, regJobArm]
  rw [hwrite, serveWrite13_blob rfl rfl rfl hfits, blobSegment_authRequest s _ _ _ _ hne]

end Sys2Proof.Machine

namespace Sys2Proof.Claims

open Sys2Proof Sys2Proof.Machine

/-- Both authorised requests are the segment of *AUTH_REQUEST* at the port. -/
theorem exec_auth {c : Instr} {segment : BitVec 16} {data : List Byte}
    (h : c = .authServiceUnlock segment data ∨ c = .authReturn segment data) (s : State) :
    exec c s = exec (.registerWrite (segTxn 0xe regAuthRequest segment data)) s := by
  rcases h with rfl | rfl <;> rfl

theorem exec_stageFusesAndSram (s : State) (e : EngineId) (fuses lcFuses : BitVec 64) (failed : List (Nat × Nat)) :
    exec (.stageFusesAndSram e fuses lcFuses failed) s = .next (stage1 s e fuses lcFuses failed) := rfl

/-- Settles O58: a read answers the challenge as it stands, stage 1 of a cold bring-up creates the first one, and each way in which a
complete request can end passes through the creation of the next. -/
theorem challengeRule : Obligations.ChallengeRule := by
  unfold Obligations.ChallengeRule
  refine ⟨fun s t hidle hop hsel hindex hsub hseg hlen => ?_, fun s e fuses lcFuses failed hopen hcold hfuses => ?_,
    fun s c data hc hidle hne hsize => ?_⟩
  · rw [exec_registerWrite_of_serves (sc := none) ⟨hidle, hsel⟩, serveOne_authChallenge hop hindex hsub hseg hlen]
    exact ⟨_, rfl, respond_onlyResponse s _ _, respond_served_resp s _ _⟩
  · obtain ⟨r, htime, hkeep⟩ := stage1_keeps_coldCounters failed hopen hcold hfuses
    obtain ⟨hcreated, hcount⟩ := coldCounters_challenge r e
    exact ⟨_, exec_stageFusesAndSram .., (hkeep.created.trans hcreated).trans htime, hkeep.count.trans hcount⟩
  · rw [exec_auth hc, exec_registerWrite_of_serves (sc := none) ⟨hidle, rfl⟩, serveOne_authRequest s hne hsize]
    obtain ⟨hcreated, hcount⟩ := authRequest_renews (setAsm s none none) data
    exact ⟨_, rfl, hcreated, hcount⟩

end Sys2Proof.Claims
